-- ==== Sys2Proof/Word.lean ====
section
/-! DEFINITION. The unsigned fields of the serial link (R196): a byte, a u16 and a u32.

Everything the part computes with (voltages, energies, instants, counts) is a `Nat` or an `Int` in the
units of the manual; bit vectors appear only where a value crosses the link or is masked. -/
namespace Sys2Proof

/-- One byte on the link (u8, or i8 read in two's complement). -/
abbrev Byte := BitVec 8

/-- A two-byte field on the link (u16). -/
abbrev Half := BitVec 16

/-- A four-byte field on the link (u32). -/
abbrev Word := BitVec 32

end Sys2Proof
end

