-- ==== Sys2Proof/Config.lean ====
section
/-! DEFINITION. The fixed figures of the FW-840 that several rules share. Each constant cites its rule.
No value here is a choice of the model's: the manual gives every one of them. -/
namespace Sys2Proof.Config

/-- R181: the longest payload of a frame, in bytes. -/
def maxPayload : Nat := 96

/-- R180: a frame in assembly survives a silence of this many µs, and no longer one. -/
def gapLimit : Nat := 2000

/-- R178: one character (10 bit times at 250,000 bit/s) lasts 40 µs. -/
def charTime : Nat := 40

/-- R123: length of a TIMED metering interval, µs. -/
def timedInterval : Nat := 200000

/-- R126: silence after the last crossing that is a mains loss, µs. -/
def mainsLossTime : Nat := 50000

/-- R125: mains cycles in one MAINS interval. -/
def cyclesPerInterval : Nat := 10

/-- R128: W·µs in one mWh. -/
def wattMicrosPerMwh : Nat := 3600000

/-- R157: places of the billing queue. -/
def queuePlaces : Nat := 32

/-- R159: a join that leaves this many free places or fewer raises QUEUE_LOW. -/
def queueLow : Nat := 4

/-- R140: entries of the account table. -/
def accountPlaces : Nat := 16

/-- R152: the cap limit of a session without an effective cap, and the ceiling of every cap, Wh. -/
def capCeilingWh : Nat := 4000000

/-- R140: the largest cap of an account, Wh. -/
def maxAccountCap : Nat := 1000000

/-- R103: ceiling of a leakage resistance, kΩ. -/
def resistanceCeiling : Nat := 50000

/-- R71: the DC inlet voltage from which INLET is measurable, and R46: the pack voltage below which
the target setpoint is 0; both dV. -/
def minVoltage : Nat := 1000

/-- R31, R32: ceiling of a current limit, dA. -/
def maxCurrent : Nat := 5000

/-- R32: ceiling of a voltage limit and R78 of a rail sample, dV. -/
def maxVoltage : Nat := 10000

/-- R32: ceiling of a power limit, W. -/
def maxPower : Nat := 350000

/-- R16: the inlet measurement failures that end ISOCHECK. -/
def isocheckFailLimit : Nat := 3

/-- Largest values of the unsigned widths. -/
def max8 : Nat := 255
def max16 : Nat := 65535
def max32 : Nat := 4294967295

/-- R152: limits of a signed 32-bit total. -/
def maxI32 : Int := 2147483647
def minI32 : Int := -2147483648

end Sys2Proof.Config
end

