-- ==== Sys2Proof/Syntax.lean ====
section
/-! DEFINITION. The commands of the block: one constructor of `Instr` for each row of
spec/opcode_table.json. A host request carries the fields of its payload (section 10.5), at their
widths on the link; a plant arrival carries the reading; a timer row carries nothing of its own.
Every command also carries its `Arrival`: how far the time base has run since the command before it,
and the channel means MFE would deliver for a metering interval closed at this arrival (R118). -/
namespace Sys2Proof

/-- The three channel means of R118, in whole W, as MFE delivers them (before R118's range step). -/
structure Powers where
  inlet  : Int
  heater : Int
  pack   : Int
deriving DecidableEq, Repr

/-- When a command arrives, and what MFE has measured by then.
`elapsed` is the time base's advance since the command before it, in µs (R2, R119). -/
structure Arrival where
  elapsed : Nat
  means   : Powers
deriving DecidableEq, Repr

/-- One temperature reading: its value in °C and MFE's validity mark (R35, R37, R65). -/
structure Reading where
  value  : Int
  marked : Bool
deriving DecidableEq, Repr

/-! ## Request payloads (section 10.5) -/

structure ProfileSetReq where
  profile        : Byte
  connectMin     : Half
  prechargeMin   : Half
  holdMax        : Word
  holdFilter     : Byte
  confirmTime    : Half
  isocheckEnable : Byte
  isocheckMax    : Half
  matchWindow    : Half
  taperEnable    : Byte
  taperVoltage   : Half
  taperStep      : Half
  endCurrent     : Half
  releaseCurrent : Half
  releaseMax     : Half
  releaseRest    : Half
  maxCurrent     : Half
  maxPower       : Word
  obcEfficiency  : Half
  phaseCount     : Byte
deriving DecidableEq, Repr

structure SeqConfigReq where
  switchRest     : Half
  turnRest       : Half
  contactorCheck : Half
deriving DecidableEq, Repr

/-- `energyCap` is 0 in the 6-byte form (R197). -/
structure SessionStartReq where
  accountId : Word
  profile   : Byte
  policy    : Byte
  energyCap : Word
deriving DecidableEq, Repr

structure OfferReq where
  currentLimit : Half
  voltageLimit : Half
  powerLimit   : Word
  holdTime     : Half
deriving DecidableEq, Repr

/-- `count` points, each a temperature (i8) and a current limit; the payload's count byte is the
length of the list (R197 answers LENGTH to any other). -/
structure DerateSetReq where
  points : List (Byte × Half)
deriving DecidableEq, Repr

structure HeaterConfigReq where
  packHeatMax   : Half
  packFloor     : Half
  heatRest      : Half
  checkAge      : Half
  hysteresis    : Byte
  elementMax    : Byte
  elementResume : Byte
  maxPackTemp   : Byte
  assumedTemp   : Byte
deriving DecidableEq, Repr

structure HeatRequestReq where
  target     : Byte
  levelRange : Byte
  levelStep  : Byte
  policy     : Byte
  duration   : Half
deriving DecidableEq, Repr

structure IsoConfigReq where
  r0              : Half
  settlePack      : Half
  settleHeater    : Half
  settleInlet     : Half
  settlePackExtra : Half
  samples         : Byte
  tolerance       : Byte
  vRef            : Half
  scanMode        : Byte
  firstSection    : Byte
  lastSection     : Byte
  period          : Half
deriving DecidableEq, Repr

structure IsoMeasureReq where
  target : Byte
deriving DecidableEq, Repr

structure IsoResultsReq where
  sections       : Byte
  clearOverwrite : Byte
  clearCounts    : Byte
deriving DecidableEq, Repr

structure IsoThresholdsReq where
  warn  : Half
  fault : Half
deriving DecidableEq, Repr

structure IsoClearReq where
  section_ : Byte
deriving DecidableEq, Repr

structure TimeSetReq where
  day     : Half
  seconds : Word
deriving DecidableEq, Repr

structure AccountSetReq where
  id            : Word
  capWh         : Word
  heaterBilling : Byte
deriving DecidableEq, Repr

structure AccountClearReq where
  id : Word
deriving DecidableEq, Repr

/-- `count` windows, each a start minute and a band, then the four prices. -/
structure TariffLoadReq where
  windows : List (Half × Byte)
  price0  : Word
  price1  : Word
  price2  : Word
  price3  : Word
deriving DecidableEq, Repr

structure RecordDropReq where
  sequence : Word
deriving DecidableEq, Repr

structure SeqBaseSetReq where
  base : Word
deriving DecidableEq, Repr

structure RouteSetReq where
  kinds : Half
  route : Byte
deriving DecidableEq, Repr

structure EventsClearReq where
  kinds : Half
deriving DecidableEq, Repr

/-- A host request: what a well-formed frame of a request kind with an allowed length carries. -/
inductive Request where
  | profileSet (f : ProfileSetReq)
  | seqConfig (f : SeqConfigReq)
  | sessionStart (f : SessionStartReq)
  | sessionStop
  | contactorClear
  | offer (f : OfferReq)
  | derateSet (f : DerateSetReq)
  | heaterConfig (f : HeaterConfigReq)
  | heatRequest (f : HeatRequestReq)
  | heatCancel
  | isoConfig (f : IsoConfigReq)
  | isoMeasure (f : IsoMeasureReq)
  | isoStop
  | isoResults (f : IsoResultsReq)
  | isoThresholds (f : IsoThresholdsReq)
  | isoClear (f : IsoClearReq)
  | meterQuery
  | timeSet (f : TimeSetReq)
  | accountSet (f : AccountSetReq)
  | accountClear (f : AccountClearReq)
  | tariffLoad (f : TariffLoadReq)
  | recordPeek
  | recordDrop (f : RecordDropReq)
  | seqBaseSet (f : SeqBaseSetReq)
  | routeSet (f : RouteSetReq)
  | eventsClear (f : EventsClearReq)
  | status
  | restart
  | linkCountsClear
deriving DecidableEq, Repr

/-- One command: one row of spec/opcode_table.json. -/
inductive Instr where
  -- host requests: a well-formed request frame of this kind completes at LNK
  | profileSet (a : Arrival) (f : ProfileSetReq)
  | seqConfig (a : Arrival) (f : SeqConfigReq)
  | sessionStart (a : Arrival) (f : SessionStartReq)
  | sessionStop (a : Arrival)
  | contactorClear (a : Arrival)
  | offer (a : Arrival) (f : OfferReq)
  | derateSet (a : Arrival) (f : DerateSetReq)
  | heaterConfig (a : Arrival) (f : HeaterConfigReq)
  | heatRequest (a : Arrival) (f : HeatRequestReq)
  | heatCancel (a : Arrival)
  | isoConfig (a : Arrival) (f : IsoConfigReq)
  | isoMeasure (a : Arrival) (f : IsoMeasureReq)
  | isoStop (a : Arrival)
  | isoResults (a : Arrival) (f : IsoResultsReq)
  | isoThresholds (a : Arrival) (f : IsoThresholdsReq)
  | isoClear (a : Arrival) (f : IsoClearReq)
  | meterQuery (a : Arrival)
  | timeSet (a : Arrival) (f : TimeSetReq)
  | accountSet (a : Arrival) (f : AccountSetReq)
  | accountClear (a : Arrival) (f : AccountClearReq)
  | tariffLoad (a : Arrival) (f : TariffLoadReq)
  | recordPeek (a : Arrival)
  | recordDrop (a : Arrival) (f : RecordDropReq)
  | seqBaseSet (a : Arrival) (f : SeqBaseSetReq)
  | routeSet (a : Arrival) (f : RouteSetReq)
  | eventsClear (a : Arrival) (f : EventsClearReq)
  | status (a : Arrival)
  | restart (a : Arrival)
  | linkCountsClear (a : Arrival)
  -- the link
  | linkRxByte (a : Arrival) (b : Byte)
  | gapTimeout (a : Arrival)
  | outboundFrameSent (a : Arrival)
  | coldStart (a : Arrival)
  -- input changes: the level the pin now has
  | plugChange (a : Arrival) (present : Bool)
  | lockFbChange (a : Arrival) (engaged : Bool)
  | dccFbChange (a : Arrival) (closed : Bool)
  | obcRdyChange (a : Arrival) (ready : Bool)
  | packLiveChange (a : Arrival) (live : Bool)
  -- readings
  | packVoltageReading (a : Arrival) (v : Nat)
  | packCurrentReading (a : Arrival) (i : Int)
  | dcInletVoltageReading (a : Arrival) (v : Nat)
  | acLineVoltageReading (a : Arrival) (phase : Fin 3) (v : Nat)
  | pilotOfferReading (a : Arrival) (i : Nat)
  | packTemperatureReading (a : Arrival) (sensor : Fin 4) (r : Reading)
  | inletPinTemperatureReading (a : Arrival) (r : Reading)
  | elementTemperatureReading (a : Arrival) (r : Reading)
  | railSample (a : Arrival) (vp vn : Nat)
  | zeroCrossing (a : Arrival)
  -- timers
  | confirmTimeExpiry (a : Arrival)
  | phaseMinimumElapsed (a : Arrival)
  | holdTimeout (a : Arrival)
  | isocheckTimeout (a : Arrival)
  | closingCheckExpiry (a : Arrival)
  | openingCheckExpiry (a : Arrival)
  | releaseMaxExpiry (a : Arrival)
  | restExpiry (a : Arrival)
  | holdTimerExpiry (a : Arrival)
  | requestExpiry (a : Arrival)
  | packHeatRestElapsed (a : Arrival)
  | settleEnd (a : Arrival)
  | periodExpiry (a : Arrival)
  | timedIntervalEnd (a : Arrival)
  | mainsLoss (a : Arrival)
deriving DecidableEq, Repr

/-- The host request a command is, if it is one. -/
def Instr.request? : Instr → Option Request
  | .profileSet _ f => some (.profileSet f)
  | .seqConfig _ f => some (.seqConfig f)
  | .sessionStart _ f => some (.sessionStart f)
  | .sessionStop _ => some .sessionStop
  | .contactorClear _ => some .contactorClear
  | .offer _ f => some (.offer f)
  | .derateSet _ f => some (.derateSet f)
  | .heaterConfig _ f => some (.heaterConfig f)
  | .heatRequest _ f => some (.heatRequest f)
  | .heatCancel _ => some .heatCancel
  | .isoConfig _ f => some (.isoConfig f)
  | .isoMeasure _ f => some (.isoMeasure f)
  | .isoStop _ => some .isoStop
  | .isoResults _ f => some (.isoResults f)
  | .isoThresholds _ f => some (.isoThresholds f)
  | .isoClear _ f => some (.isoClear f)
  | .meterQuery _ => some .meterQuery
  | .timeSet _ f => some (.timeSet f)
  | .accountSet _ f => some (.accountSet f)
  | .accountClear _ f => some (.accountClear f)
  | .tariffLoad _ f => some (.tariffLoad f)
  | .recordPeek _ => some .recordPeek
  | .recordDrop _ f => some (.recordDrop f)
  | .seqBaseSet _ f => some (.seqBaseSet f)
  | .routeSet _ f => some (.routeSet f)
  | .eventsClear _ f => some (.eventsClear f)
  | .status _ => some .status
  | .restart _ => some .restart
  | .linkCountsClear _ => some .linkCountsClear
  | .linkRxByte _ _ => none
  | .gapTimeout _ => none
  | .outboundFrameSent _ => none
  | .coldStart _ => none
  | .plugChange _ _ => none
  | .lockFbChange _ _ => none
  | .dccFbChange _ _ => none
  | .obcRdyChange _ _ => none
  | .packLiveChange _ _ => none
  | .packVoltageReading _ _ => none
  | .packCurrentReading _ _ => none
  | .dcInletVoltageReading _ _ => none
  | .acLineVoltageReading _ _ _ => none
  | .pilotOfferReading _ _ => none
  | .packTemperatureReading _ _ _ => none
  | .inletPinTemperatureReading _ _ => none
  | .elementTemperatureReading _ _ => none
  | .railSample _ _ _ => none
  | .zeroCrossing _ => none
  | .confirmTimeExpiry _ => none
  | .phaseMinimumElapsed _ => none
  | .holdTimeout _ => none
  | .isocheckTimeout _ => none
  | .closingCheckExpiry _ => none
  | .openingCheckExpiry _ => none
  | .releaseMaxExpiry _ => none
  | .restExpiry _ => none
  | .holdTimerExpiry _ => none
  | .requestExpiry _ => none
  | .packHeatRestElapsed _ => none
  | .settleEnd _ => none
  | .periodExpiry _ => none
  | .timedIntervalEnd _ => none
  | .mainsLoss _ => none

end Sys2Proof
end

