-- ==== Sys2Proof/Decode.lean ====
section
/-! DEFINITION. Reading and writing the fields of a payload (R196), the request kinds and their payload
lengths (section 10.3, R197), the request payloads (section 10.5) in both directions, and
`decodeTableWord`: spec/opcode_table.json gives no row any bits, so no word spells a command. -/
namespace Sys2Proof

/-! ## Fields, least significant byte first (R196) -/

/-- The low byte of a number. -/
def byteOf (n : Nat) : Byte := BitVec.ofNat 8 n

def putU8 (n : Nat) : List Byte := [byteOf n]
def putU16 (n : Nat) : List Byte := [byteOf n, byteOf (n / 256)]
def putU32 (n : Nat) : List Byte :=
  [byteOf n, byteOf (n / 256), byteOf (n / 65536), byteOf (n / 16777216)]

/-- A signed field is written in two's complement (R196). -/
def putI8 (i : Int) : List Byte := [BitVec.ofInt 8 i]
def putI32 (i : Int) : List Byte := putU32 (BitVec.ofInt 32 i).toNat

/-- The byte at an offset of a payload; the length has been checked by then, and a byte beyond the
end reads 0. -/
def getU8 (p : List Byte) (at_ : Nat) : Byte := p.getD at_ 0
def getU16 (p : List Byte) (at_ : Nat) : Half := getU8 p (at_ + 1) ++ getU8 p at_
def getU32 (p : List Byte) (at_ : Nat) : Word := getU16 p (at_ + 2) ++ getU16 p at_

def putHalf (h : Half) : List Byte := putU16 h.toNat
def putWord (w : Word) : List Byte := putU32 w.toNat

/-! ## Request kinds (section 10.3) -/

def Request.kind : Request → Byte
  | .profileSet _ => 0x10
  | .seqConfig _ => 0x11
  | .sessionStart _ => 0x12
  | .sessionStop => 0x13
  | .contactorClear => 0x14
  | .offer _ => 0x20
  | .derateSet _ => 0x21
  | .heaterConfig _ => 0x28
  | .heatRequest _ => 0x29
  | .heatCancel => 0x2A
  | .isoConfig _ => 0x30
  | .isoMeasure _ => 0x31
  | .isoStop => 0x32
  | .isoResults _ => 0x33
  | .isoThresholds _ => 0x34
  | .isoClear _ => 0x35
  | .meterQuery => 0x40
  | .timeSet _ => 0x48
  | .accountSet _ => 0x49
  | .accountClear _ => 0x4A
  | .tariffLoad _ => 0x4B
  | .recordPeek => 0x4C
  | .recordDrop _ => 0x4D
  | .seqBaseSet _ => 0x4E
  | .routeSet _ => 0x58
  | .eventsClear _ => 0x59
  | .status => 0x60
  | .restart => 0x61
  | .linkCountsClear => 0x62

/-! ## Request payloads (section 10.5) -/

/-- The points of a DERATE_SET: three bytes each. -/
def putPoints : List (Byte × Half) → List Byte
  | [] => []
  | (t, c) :: rest => t :: putHalf c ++ putPoints rest

def getPoints : Nat → List Byte → List (Byte × Half)
  | 0, _ => []
  | n + 1, p => (getU8 p 0, getU16 p 1) :: getPoints n (p.drop 3)

/-- The windows of a TARIFF_LOAD: three bytes each. -/
def putWindows : List (Half × Byte) → List Byte
  | [] => []
  | (m, b) :: rest => putHalf m ++ (b :: putWindows rest)

def getWindows : Nat → List Byte → List (Half × Byte)
  | 0, _ => []
  | n + 1, p => (getU16 p 0, getU8 p 2) :: getWindows n (p.drop 3)

/-- The payload a host sends for a request (the 10-byte form of SESSION_START). -/
def Request.payload : Request → List Byte
  | .profileSet f =>
      f.profile :: putHalf f.connectMin ++ putHalf f.prechargeMin ++ putWord f.holdMax
        ++ (f.holdFilter :: putHalf f.confirmTime) ++ (f.isocheckEnable :: putHalf f.isocheckMax)
        ++ putHalf f.matchWindow ++ (f.taperEnable :: putHalf f.taperVoltage)
        ++ putHalf f.taperStep ++ putHalf f.endCurrent ++ putHalf f.releaseCurrent
        ++ putHalf f.releaseMax ++ putHalf f.releaseRest ++ putHalf f.maxCurrent
        ++ putWord f.maxPower ++ putHalf f.obcEfficiency ++ [f.phaseCount]
  | .seqConfig f => putHalf f.switchRest ++ putHalf f.turnRest ++ putHalf f.contactorCheck
  | .sessionStart f => putWord f.accountId ++ [f.profile, f.policy] ++ putWord f.energyCap
  | .sessionStop => []
  | .contactorClear => []
  | .offer f =>
      putHalf f.currentLimit ++ putHalf f.voltageLimit ++ putWord f.powerLimit ++ putHalf f.holdTime
  | .derateSet f => byteOf f.points.length :: putPoints f.points
  | .heaterConfig f =>
      putHalf f.packHeatMax ++ putHalf f.packFloor ++ putHalf f.heatRest ++ putHalf f.checkAge
        ++ [f.hysteresis, f.elementMax, f.elementResume, f.maxPackTemp, f.assumedTemp]
  | .heatRequest f => [f.target, f.levelRange, f.levelStep, f.policy] ++ putHalf f.duration
  | .heatCancel => []
  | .isoConfig f =>
      putHalf f.r0 ++ putHalf f.settlePack ++ putHalf f.settleHeater ++ putHalf f.settleInlet
        ++ putHalf f.settlePackExtra ++ [f.samples, f.tolerance] ++ putHalf f.vRef
        ++ [f.scanMode, f.firstSection, f.lastSection] ++ putHalf f.period
  | .isoMeasure f => [f.target]
  | .isoStop => []
  | .isoResults f => [f.sections, f.clearOverwrite, f.clearCounts]
  | .isoThresholds f => putHalf f.warn ++ putHalf f.fault
  | .isoClear f => [f.section_]
  | .meterQuery => []
  | .timeSet f => putHalf f.day ++ putWord f.seconds
  | .accountSet f => putWord f.id ++ putWord f.capWh ++ [f.heaterBilling]
  | .accountClear f => putWord f.id
  | .tariffLoad f =>
      byteOf f.windows.length :: putWindows f.windows
        ++ putWord f.price0 ++ putWord f.price1 ++ putWord f.price2 ++ putWord f.price3
  | .recordPeek => []
  | .recordDrop f => putWord f.sequence
  | .seqBaseSet f => putWord f.base
  | .routeSet f => putHalf f.kinds ++ [f.route]
  | .eventsClear f => putHalf f.kinds
  | .status => []
  | .restart => []
  | .linkCountsClear => []

/-- What LNK makes of a taken frame (R183): a kind that is no request kind, a payload length the kind
does not allow (R197), or a request for its owner. -/
inductive Parsed where
  | unknown
  | badLength
  | request (r : Request)
deriving DecidableEq, Repr

/-- R197, fixed form. -/
def fixedLength (n : Nat) (p : List Byte) (r : Request) : Parsed :=
  if p.length = n then .request r else .badLength

/-- R197, counted list: an empty payload has no count. -/
def countedLength (fixed : Nat) (p : List Byte) (r : Nat → Request) : Parsed :=
  let count := (getU8 p 0).toNat
  if p.length ≠ 0 ∧ p.length = fixed + 3 * count then .request (r count) else .badLength

/-- R183, checks 1 and 2, and the fields of the payload (section 10.5). -/
def parseRequest (kind : Byte) (p : List Byte) : Parsed :=
  match kind.toNat with
  | 0x10 => fixedLength 39 p (.profileSet
      { profile := getU8 p 0, connectMin := getU16 p 1, prechargeMin := getU16 p 3
        holdMax := getU32 p 5, holdFilter := getU8 p 9, confirmTime := getU16 p 10
        isocheckEnable := getU8 p 12, isocheckMax := getU16 p 13, matchWindow := getU16 p 15
        taperEnable := getU8 p 17, taperVoltage := getU16 p 18, taperStep := getU16 p 20
        endCurrent := getU16 p 22, releaseCurrent := getU16 p 24, releaseMax := getU16 p 26
        releaseRest := getU16 p 28, maxCurrent := getU16 p 30, maxPower := getU32 p 32
        obcEfficiency := getU16 p 36, phaseCount := getU8 p 38 })
  | 0x11 => fixedLength 6 p (.seqConfig
      { switchRest := getU16 p 0, turnRest := getU16 p 2, contactorCheck := getU16 p 4 })
  | 0x12 =>
      if p.length = 6 then
        .request (.sessionStart
          { accountId := getU32 p 0, profile := getU8 p 4, policy := getU8 p 5, energyCap := 0 })
      else fixedLength 10 p (.sessionStart
          { accountId := getU32 p 0, profile := getU8 p 4, policy := getU8 p 5
            energyCap := getU32 p 6 })
  | 0x13 => fixedLength 0 p .sessionStop
  | 0x14 => fixedLength 0 p .contactorClear
  | 0x20 => fixedLength 10 p (.offer
      { currentLimit := getU16 p 0, voltageLimit := getU16 p 2, powerLimit := getU32 p 4
        holdTime := getU16 p 8 })
  | 0x21 => countedLength 1 p fun n => .derateSet { points := getPoints n (p.drop 1) }
  | 0x28 => fixedLength 13 p (.heaterConfig
      { packHeatMax := getU16 p 0, packFloor := getU16 p 2, heatRest := getU16 p 4
        checkAge := getU16 p 6, hysteresis := getU8 p 8, elementMax := getU8 p 9
        elementResume := getU8 p 10, maxPackTemp := getU8 p 11, assumedTemp := getU8 p 12 })
  | 0x29 => fixedLength 6 p (.heatRequest
      { target := getU8 p 0, levelRange := getU8 p 1, levelStep := getU8 p 2, policy := getU8 p 3
        duration := getU16 p 4 })
  | 0x2A => fixedLength 0 p .heatCancel
  | 0x30 => fixedLength 19 p (.isoConfig
      { r0 := getU16 p 0, settlePack := getU16 p 2, settleHeater := getU16 p 4
        settleInlet := getU16 p 6, settlePackExtra := getU16 p 8, samples := getU8 p 10
        tolerance := getU8 p 11, vRef := getU16 p 12, scanMode := getU8 p 14
        firstSection := getU8 p 15, lastSection := getU8 p 16, period := getU16 p 17 })
  | 0x31 => fixedLength 1 p (.isoMeasure { target := getU8 p 0 })
  | 0x32 => fixedLength 0 p .isoStop
  | 0x33 => fixedLength 3 p (.isoResults
      { sections := getU8 p 0, clearOverwrite := getU8 p 1, clearCounts := getU8 p 2 })
  | 0x34 => fixedLength 4 p (.isoThresholds { warn := getU16 p 0, fault := getU16 p 2 })
  | 0x35 => fixedLength 1 p (.isoClear { section_ := getU8 p 0 })
  | 0x40 => fixedLength 0 p .meterQuery
  | 0x48 => fixedLength 6 p (.timeSet { day := getU16 p 0, seconds := getU32 p 2 })
  | 0x49 => fixedLength 9 p (.accountSet
      { id := getU32 p 0, capWh := getU32 p 4, heaterBilling := getU8 p 8 })
  | 0x4A => fixedLength 4 p (.accountClear { id := getU32 p 0 })
  | 0x4B => countedLength 17 p fun n => .tariffLoad
      { windows := getWindows n (p.drop 1), price0 := getU32 p (1 + 3 * n)
        price1 := getU32 p (5 + 3 * n), price2 := getU32 p (9 + 3 * n)
        price3 := getU32 p (13 + 3 * n) }
  | 0x4C => fixedLength 0 p .recordPeek
  | 0x4D => fixedLength 4 p (.recordDrop { sequence := getU32 p 0 })
  | 0x4E => fixedLength 4 p (.seqBaseSet { base := getU32 p 0 })
  | 0x58 => fixedLength 3 p (.routeSet { kinds := getU16 p 0, route := getU8 p 2 })
  | 0x59 => fixedLength 2 p (.eventsClear { kinds := getU16 p 0 })
  | 0x60 => fixedLength 0 p .status
  | 0x61 => fixedLength 0 p .restart
  | 0x62 => fixedLength 0 p .linkCountsClear
  | _ => .unknown

/-! ## The check and the frame (R182, section 10.2) -/

/-- One of the eight shifts of R182: the bit leaving the top brings in 0x1021. -/
def checkShift (r : Half) : Half :=
  if r.msb then (r <<< 1) ^^^ 0x1021#16 else r <<< 1

/-- `n` shifts. -/
def checkShifts : Nat → Half → Half
  | 0, r => r
  | n + 1, r => checkShifts n (checkShift r)

/-- R182: one byte taken into the check register. -/
def checkByte (r : Half) (b : Byte) : Half :=
  checkShifts 8 (r ^^^ (b ++ 0#8))

/-- R182: the check over the length, kind and payload bytes. -/
def check (bs : List Byte) : Half := bs.foldl checkByte 0xFFFF#16

/-- The bytes of a frame as they cross the line (section 10.2). -/
def frameBytes (kind : Byte) (payload : List Byte) : List Byte :=
  let body := byteOf payload.length :: kind :: payload
  0xC3 :: body ++ putHalf (check body)

/-! ## The opcode table -/

/-- spec/opcode_table.json gives its rows no bits ("fields": [] in every row), so no word spells a
command. -/
def decodeTableWord (_nbits _w : Nat) : Option Instr := none

end Sys2Proof
end

