-- ==== Sys2Proof/Machine/State.lean ====
section
/-! DEFINITION. The state of the FW-840, block by block as the manual's block table has it, the reasons
a step can stop, and `State.reset`. Instants named "ms" are whole milliseconds of the one time base
(R2, R119); instants named "us" are its microseconds. Outputs that the manual defines as a function of
other state are computed, not held: SETPOINT (R19), ALERT (R170), INJ_P and INJ_N (R75), T_min and
T_max (R36), the free places and the reservation (R157). -/
namespace Sys2Proof.Machine
open Sys2Proof

/-! ## Names -/

/-- R2: the two inlet profiles. -/
inductive Profile where | ac | dc
deriving DecidableEq, Repr

/-- The other profile. -/
def Profile.other : Profile → Profile
  | .ac => .dc
  | .dc => .ac

/-- R2: the session's allocation policy. -/
inductive Policy where | heatFirst | chargeFirst
deriving DecidableEq, Repr

/-- R1: the sequencer states. -/
inductive SeqState where
  | idle | waitingRest | connect | isocheck | precharge | energy | taper | release
deriving DecidableEq, Repr

/-- Session end causes (R12, R14, R16, R19, R20, R22; section 10.4). -/
inductive EndCause where
  | hostStop | complete | cap | offerStale | holdTimeout | inletIso | isocheckFail
  | isocheckTimeout | isoFault | contactor | unplug | packOff | mainsLoss | inletHot
deriving DecidableEq, Repr

/-- R13: how changes of a ready condition are taken. -/
inductive HoldFilter where | direct | confirmed
deriving DecidableEq, Repr

/-- R6: kind of the last operation. -/
inductive RestKind where | none | charge | packHeat
deriving DecidableEq, Repr

/-- R30: state of the offer record. -/
inductive OfferState where | empty | live | stale
deriving DecidableEq, Repr

/-- R30: writer of the offer record. -/
inductive OfferSource where | none | line | host
deriving DecidableEq, Repr

/-- R30: a voltage or power limit, or unlimited. -/
inductive Limit where
  | upTo (n : Nat)
  | unlimited
deriving DecidableEq, Repr

/-- R52: the twelve heater levels, in their order by power. -/
inductive Level where
  | l1 | l2 | l3 | l4 | l5 | l6 | l7 | l8 | h5 | h6 | h7 | h8
deriving DecidableEq, Repr

/-- R55: sources a heat request may use. -/
inductive HeatPolicy where | inletOnly | inletOrPack
deriving DecidableEq, Repr

/-- R55: the source held. -/
inductive HeatSource where | none | inlet | pack
deriving DecidableEq, Repr

/-- Section 3.5: heater states. -/
inductive HeatState where | idle | pending | check | on | satisfied
deriving DecidableEq, Repr

/-- R59 and R68: heat request end causes and run end causes. -/
inductive HeatEnd where
  | expired | cancelled | isoFault | isoCheck | restart | superseded | sourceLost | element
deriving DecidableEq, Repr

/-- R71: the measured sections. -/
inductive Section where | pack | heater | inlet
deriving DecidableEq, Repr

/-- R84: the request slots of ISM. -/
inductive Slot where | sequencer | heater | host | scan
deriving DecidableEq, Repr

/-- Section 4.6: scan modes. -/
inductive ScanMode where | off | single | periodic | continuous
deriving DecidableEq, Repr

/-- R75: the network while a measurement is in flight (FREE is the absence of one). -/
inductive NetPhase where | settleA | sampleA | settleB | sampleB
deriving DecidableEq, Repr

/-- R107: section levels. -/
inductive IsoLevel where | normal | warning | fault
deriving DecidableEq, Repr

/-- R119: the metering gate. -/
inductive Gate where | closed | opened
deriving DecidableEq, Repr

/-- R120: why an interval ended, with the partial cause. -/
inductive SampleKind where | full | boundary | gateClose | mainsLoss
deriving DecidableEq, Repr

/-- R130: where a sample's energy went. -/
inductive Destination where | none | session | run
deriving DecidableEq, Repr

/-- R140: who bears heater energy. -/
inductive HeaterBilling where | account | operator
deriving DecidableEq, Repr

/-- R166: what a pending kind does. -/
inductive Route where | none | notice | alert | both
deriving DecidableEq, Repr

/-- R165: the fourteen event kinds, in kind-number order. -/
inductive EventKind where
  | restarted | contactorFault | isoLevel | mainsLoss | offerStale | sensorFault | linkError
  | sessionPhase | heatState | isoResult | isoOverwrite | sessionEnd | recordReady | queueLow
deriving DecidableEq, Repr

/-- R165: the settings of the contactor fault latch. -/
inductive FaultCase where | closeCheck | opened | weld | coldStart
deriving DecidableEq, Repr

/-- R165: the sensors of SENSOR_FAULT. -/
inductive SensorId where
  | pack (n : Fin 4)
  | inletPin
  | element
deriving DecidableEq, Repr

/-- R165: why a sensor became invalid. -/
inductive SensorReason where | markedInvalid | outOfRange
deriving DecidableEq, Repr

/-- R181, R185: the reasons of LINK_ERROR. -/
inductive LinkReason where | gap | length | check | overrun
deriving DecidableEq, Repr

/-! ## Plant inputs and MFE -/

/-- The digital inputs of the signal list, as last seen. -/
structure Inputs where
  plug     : Bool
  lockFb   : Bool
  dccFb    : Bool
  obcRdy   : Bool
  packLive : Bool
deriving DecidableEq, Repr

/-- The latest MFE readings several blocks use (R41: a voltage not read since a cold start counts as
0), and the channel means of the present arrival (`Arrival.means`; the model's own field). -/
structure Mfe where
  packVoltage    : Nat
  dcInletVoltage : Nat
  lineVoltage    : Vector Nat 3
  means          : Powers
deriving DecidableEq, Repr

/-! ## SEQ -/

/-- The profile fields both kinds have (PROFILE_SET). -/
structure ProfileCommon where
  connectMin     : Nat
  prechargeMin   : Nat
  holdMax        : Nat
  holdFilter     : HoldFilter
  confirmTime    : Nat
  isocheckEnable : Bool
  taperEnable    : Bool
  taperVoltage   : Nat
  taperStep      : Nat
  endCurrent     : Nat
  releaseCurrent : Nat
  releaseMax     : Nat
  releaseRest    : Nat
  maxCurrent     : Nat
  maxPower       : Nat
deriving DecidableEq, Repr

/-- The AC profile's own fields (R3, R4). -/
structure AcOnly where
  obcEfficiency : Nat
  phaseCount    : Nat
deriving DecidableEq, Repr

/-- The DC profile's own fields (R3, R4). -/
structure DcOnly where
  isocheckMax : Nat
  matchWindow : Nat
deriving DecidableEq, Repr

/-- R5: the sequencer-wide settings. -/
structure SeqSettings where
  switchRest     : Nat
  turnRest       : Nat
  contactorCheck : Nat
deriving DecidableEq, Repr

/-- R2: the session context. -/
structure SessionContext where
  sequence         : Nat
  account          : Nat
  profile          : Profile
  policy           : Policy
  phaseEntry       : Nat
  readyRaw         : Bool
  readyFiltered    : Bool
  rawChange        : Option Nat
  isocheckFailures : Nat
  energised        : Bool
  endCause         : Option EndCause
deriving DecidableEq, Repr

/-- R9: the pending-start slot. `cap` is the effective cap in Wh, if there is one. -/
structure PendingStart where
  account : Nat
  profile : Profile
  policy  : Policy
  cap     : Option Nat
  expiry  : Nat
deriving DecidableEq, Repr

/-- R6: the rest record; `endInstant` in ms. -/
structure RestRecord where
  kind       : RestKind
  profile    : Profile
  endInstant : Nat
deriving DecidableEq, Repr

/-- R18, R22: the feedback check of the DC contactors. `passed` is the state after a passed closing
check (R14 watches DCC_FB from then on); the two running checks carry their limit, in ms. -/
inductive ContactorCheck where
  | none
  | closing (deadline : Nat)
  | passed
  | opening (deadline : Nat)
deriving DecidableEq, Repr

/-- The Charge Sequencer. -/
structure Seq where
  state        : SeqState
  ctx          : Option SessionContext
  pendingStart : Option PendingStart
  ac           : ProfileCommon
  acOnly       : AcOnly
  dc           : ProfileCommon
  dcOnly       : DcOnly
  settings     : SeqSettings
  rest         : RestRecord
  check        : ContactorCheck
  faultLatch   : Bool
  lockHeld     : Bool
  lockCmd      : Bool
  dccCmd       : Bool
  obcEn        : Bool
deriving DecidableEq, Repr

/-! ## ALC -/

/-- R30: the offer record; `hold` is the expiry instant of a running hold timer, ms. -/
structure Offer where
  state  : OfferState
  source : OfferSource
  iOff   : Nat
  vOff   : Limit
  pOff   : Limit
  hold   : Option Nat
deriving DecidableEq, Repr

/-- A sensor's latest value and valid flag (R35, R37, R65). -/
structure Sensor where
  value : Int
  valid : Bool
deriving DecidableEq, Repr

/-- The Power Allocator. `pAvail` and `iAcc` are the figures of the last allocation (R41). -/
structure Alc where
  offer         : Offer
  sensors       : Vector Sensor 4
  inletPin      : Sensor
  derate        : List (Int × Nat)
  pAvail        : Nat
  iAcc          : Nat
  targetSet     : Nat
  appliedSet    : Nat
  targetGrant   : Option Level
  appliedGrant  : Option Level
  ceiling       : Option Nat
  quiet         : Bool
deriving DecidableEq, Repr

/-! ## HTR -/

/-- HEATER_CONFIG (R53). -/
structure HeaterSettings where
  packHeatMax   : Nat
  packFloor     : Nat
  heatRest      : Nat
  checkAge      : Nat
  hysteresis    : Nat
  elementMax    : Nat
  elementResume : Nat
  maxPackTemp   : Nat
  assumedTemp   : Int
deriving DecidableEq, Repr

/-- R55: the heat request. -/
structure HeatRequest where
  target    : Int
  level     : Level
  policy    : HeatPolicy
  expiry    : Nat
  hasBeenOn : Bool
  source    : HeatSource
deriving DecidableEq, Repr

/-- R67: the run record; `ended` is absent while the run is active. -/
structure RunRecord where
  start        : Nat
  packEnergy   : Int
  heaterEnergy : Nat
  highest      : Level
  ended        : Option (Nat × HeatEnd)
deriving DecidableEq, Repr

/-- The Heater Controller. `level` is the applied level, carried by HTR_LEVEL (R52). -/
structure Htr where
  settings : HeaterSettings
  request  : Option HeatRequest
  state    : HeatState
  level    : Option Level
  switch   : Bool
  element  : Sensor
  lock     : Bool
  run      : Option RunRecord
deriving DecidableEq, Repr

/-! ## ISM -/

/-- ISO_CONFIG's measurement settings (R73). -/
structure IsoSettings where
  r0              : Nat
  settlePack      : Nat
  settleHeater    : Nat
  settleInlet     : Nat
  settlePackExtra : Nat
  samples         : Nat
  tolerance       : Nat
  vRef            : Nat
deriving DecidableEq, Repr

/-- The scan: its configuration and R87's state. `measured` notes that a step of the present pass was
measured (R90 asks whether every step was SKIPPED). -/
structure Scan where
  mode     : ScanMode
  first    : Section
  last     : Section
  period   : Nat
  busy     : Bool
  step     : Option Section
  measured : Bool
  timer    : Option Nat
deriving DecidableEq, Repr

/-- R76: the context of the measurement in flight. -/
structure Measurement where
  phase    : NetPhase
  slot     : Slot
  sec      : Section
  settle   : Nat
  phaseEnd : Nat
  sumP     : Nat
  sumN     : Nat
  count    : Nat
  meansA   : Option (Nat × Nat)
  meansB   : Option (Nat × Nat)
deriving DecidableEq, Repr

/-- R93: a stored RESULT. -/
structure StoredResult where
  rp      : Nat
  rn      : Nat
  rIso    : Nat
  figure  : Nat
  isOver  : Bool
  vRef    : Nat
  instant : Nat
  slot    : Slot
deriving DecidableEq, Repr

/-- R93: a section record, without the level fields. -/
structure SectionRecord where
  result       : Option StoredResult
  fresh        : Bool
  overwrite    : Bool
  completed    : Nat
  discarded    : Nat
  dead         : Nat
  inconsistent : Nat
  skipped      : Nat
deriving DecidableEq, Repr

/-- R110: what the fault latch records. -/
structure FaultLatch where
  figure  : Nat
  instant : Nat
  slot    : Slot
deriving DecidableEq, Repr

/-- R107: the level fields of the PACK and HEATER records. -/
structure LevelRecord where
  lowRun   : Nat
  faultRun : Nat
  goodRun  : Nat
  level    : IsoLevel
  latch    : Option FaultLatch
deriving DecidableEq, Repr

/-- The Insulation Monitor. The SCAN slot's content is `scan.step`; the SEQUENCER and HEATER slots can
only name INLET and HEATER (R84). -/
structure Ism where
  settings    : IsoSettings
  scan        : Scan
  slotSeq     : Bool
  slotHeater  : Bool
  slotHost    : Option Section
  flight      : Option Measurement
  pack        : SectionRecord
  heater      : SectionRecord
  inlet       : SectionRecord
  packLevel   : LevelRecord
  heaterLevel : LevelRecord
  scanOverrun : Nat
  warn        : Nat
  fault       : Nat
deriving DecidableEq, Repr

/-! ## MTR -/

/-- R119: how the interval in progress ends; MAINS carries its cycles and the last crossing (µs). -/
inductive Timing where
  | timed
  | mains (cycles : Nat) (lastCrossing : Nat)
deriving DecidableEq, Repr

/-- R119: one residue per channel, in W·µs. -/
structure Residues where
  inlet  : Nat
  heater : Nat
  pack   : Nat
deriving DecidableEq, Repr

/-- R120: a sample; `cycles` is present for MAINS timing only. -/
structure Sample where
  endUs       : Nat
  duration    : Nat
  cycles      : Option Nat
  kind        : SampleKind
  powers      : Powers
  destination : Destination
deriving DecidableEq, Repr

/-- The Meter Unit; `intervalStart` in µs. -/
structure Mtr where
  gate          : Gate
  intervalStart : Nat
  timing        : Timing
  residues      : Residues
  lastSample    : Option Sample
deriving DecidableEq, Repr

/-! ## BIL -/

/-- R137: the time-of-day clock; `setInstant` in µs. -/
structure Clock where
  valid      : Bool
  setDay     : Nat
  setSeconds : Nat
  setInstant : Nat
deriving DecidableEq, Repr

/-- R137: one reading of the clock. -/
structure ClockReading where
  valid   : Bool
  day     : Nat
  seconds : Nat
deriving DecidableEq, Repr

/-- R140: one entry of the account table. -/
structure Account where
  id      : Nat
  capWh   : Nat
  billing : HeaterBilling
deriving DecidableEq, Repr

/-- R144: a tariff table. -/
structure Tariff where
  generation : Nat
  windows    : List (Nat × Fin 4)
  prices     : Vector Nat 4
deriving DecidableEq, Repr

/-- R150: the open-session record. -/
structure OpenRecord where
  sequence   : Nat
  account    : Nat
  profile    : Profile
  policy     : Policy
  billing    : HeaterBilling
  cap        : Option Nat
  generation : Nat
  start      : ClockReading
  band       : Vector Nat 4
  heaterBand : Vector Nat 4
  netPack    : Int
  untimed    : Bool
  partial_   : Bool
  minIso     : Option Nat
deriving DecidableEq, Repr

/-- R157: a closed record. -/
structure ClosedRecord where
  sequence     : Nat
  account      : Nat
  profile      : Profile
  policy       : Policy
  generation   : Nat
  startDay     : Nat
  startSeconds : Nat
  endDay       : Nat
  endSeconds   : Nat
  endCause     : EndCause
  band         : Vector Nat 4
  heaterBand   : Vector Nat 4
  netPack      : Int
  cost         : Nat
  untimed      : Bool
  partial_     : Bool
  minIso       : Option Nat
deriving DecidableEq, Repr

/-- The Billing Unit; the queue is oldest first. -/
structure Bil where
  clock         : Clock
  accounts      : List Account
  active        : Tariff
  pendingTariff : Option Tariff
  counter       : Nat
  queue         : List ClosedRecord
  openRec       : Option OpenRecord
deriving DecidableEq, Repr

/-! ## EVT -/

/-- R98: the outcome of a measurement, with all it carries. -/
inductive IsoOutcome where
  | result (vbA vbB rp rn rIso figure : Nat) (isOver : Bool)
  | dead (vbA vbB : Nat)
  | tolerance (vbA vbB : Nat)
  | polarity (vbA vbB : Nat)
deriving DecidableEq, Repr

/-- R165: the data of an occurrence. -/
inductive EventData where
  | restarted (warm : Bool)
  | contactorFault (case_ : FaultCase) (lockHeld : Bool)
  | isoLevel (sec : Section) (before after : IsoLevel) (cause : Option Nat)
  | mainsLoss (cycles duration : Nat)
  | offerStale (source : OfferSource) (iOff : Nat) (vOff pOff : Limit)
  | sensorFault (sensor : SensorId) (reason : SensorReason)
  | linkError (reason : LinkReason)
  | sessionPhase (state : SeqState) (cause : Option EndCause)
  | heatState (state : HeatState) (source : HeatSource) (level : Option Level)
      (cause : Option HeatEnd) (run : Option RunRecord)
  | isoResult (sec : Section) (slot : Slot) (outcome : IsoOutcome)
  | isoOverwrite (sec : Section)
  | sessionEnd (sequence : Nat) (cause : EndCause)
  | recordReady (sequence closed : Nat)
  | queueLow (free : Nat)
deriving DecidableEq, Repr

/-- R166: one kind's record; `latest` carries the raise instant in ms. -/
structure KindRecord where
  pending : Bool
  count   : Nat
  route   : Route
  owed    : Bool
  latest  : Option (Nat × EventData)
deriving DecidableEq, Repr

/-- The Event Unit: one record per kind, by kind number. -/
structure Evt where
  kinds : Vector KindRecord 14
deriving DecidableEq, Repr

/-! ## LNK -/

/-- R179: the receive assembler; outside HUNT it holds the arrival instant of the last byte (µs), and
the length, kind, payload so far and low check byte as far as they have arrived. -/
inductive Assembler where
  | hunt
  | length (last : Nat)
  | kind (last : Nat) (len : Nat)
  | payload (last : Nat) (len : Nat) (kind : Byte) (got : List Byte)
  | checkLow (last : Nat) (kind : Byte) (got : List Byte)
  | checkHigh (last : Nat) (kind : Byte) (got : List Byte) (low : Byte)
deriving DecidableEq, Repr

/-- R183: the request in the slot, with its reply's payload (status first); a request is handled at
the arrival that takes it, so its reply stands beside it. -/
structure SlotRequest where
  kind  : Byte
  reply : List Byte
deriving DecidableEq, Repr

/-- R188: the outbound side. A frame in sending carries its bytes, the instant its last stop bit will
have been sent (µs, R178), and whether it is the reply of an accepted RESTART (R194). -/
inductive Outbound where
  | free
  | sending (bytes : List Byte) (ends : Nat) (restart : Bool)
deriving DecidableEq, Repr

/-- R190: the seven link counts. -/
structure LinkCounts where
  requests     : Nat
  busy         : Nat
  overruns     : Nat
  gapErrors    : Nat
  lengthErrors : Nat
  checkErrors  : Nat
  notices      : Nat
deriving DecidableEq, Repr

/-- The Link Interface. -/
structure Lnk where
  rx             : Assembler
  slot           : Option SlotRequest
  owedBusy       : Option Byte
  out            : Outbound
  counts         : LinkCounts
  restartPending : Bool
deriving DecidableEq, Repr

/-! ## The state -/

/-- The whole part, and the queue of commands that wait (first in, first out). -/
structure State where
  time    : Nat
  inputs  : Inputs
  mfe     : Mfe
  seq     : Seq
  alc     : Alc
  htr     : Htr
  ism     : Ism
  mtr     : Mtr
  bil     : Bil
  evt     : Evt
  lnk     : Lnk
  pending : List Instr
deriving DecidableEq, Repr

/-- Why a step faults. The manual gives every command an effect in every state ("Values that come from
the plant are not answered at all. A wrong or untimely plant value is held, clamped, excluded or
degraded"), so the part has no fault of this kind: the type has no constructor. Safe. -/
inductive Fault where
deriving DecidableEq, Repr

/-- Why a command is refused. -/
inductive Refusal where
  /-- A command whose arm has no meaning yet. Raised by `exec` alone; no arm does, so nothing raises
  it. Safe: the machine would stop where the part goes on. -/
  | notModelled (mnemonic : String)
deriving DecidableEq, Repr

/-! ## Block updates -/

def State.withTime (s : State) (t : Nat) : State := { s with time := t }
def State.withInputs (s : State) (i : Inputs) : State := { s with inputs := i }
def State.withMfe (s : State) (m : Mfe) : State := { s with mfe := m }
def State.withSeq (s : State) (q : Seq) : State := { s with seq := q }
def State.withAlc (s : State) (a : Alc) : State := { s with alc := a }
def State.withHtr (s : State) (h : Htr) : State := { s with htr := h }
def State.withIsm (s : State) (i : Ism) : State := { s with ism := i }
def State.withMtr (s : State) (m : Mtr) : State := { s with mtr := m }
def State.withBil (s : State) (b : Bil) : State := { s with bil := b }
def State.withEvt (s : State) (e : Evt) : State := { s with evt := e }
def State.withLnk (s : State) (l : Lnk) : State := { s with lnk := l }
def State.withPending (s : State) (p : List Instr) : State := { s with pending := p }

/-! ## Reset values -/

/-- R4: the AC profile's defaults. -/
def defaultAc : ProfileCommon :=
  { connectMin := 500, prechargeMin := 1000, holdMax := 20000, holdFilter := .confirmed
    confirmTime := 50, isocheckEnable := false, taperEnable := true, taperVoltage := 8200
    taperStep := 900, endCurrent := 50, releaseCurrent := 20, releaseMax := 2000
    releaseRest := 2000, maxCurrent := 400, maxPower := 22000 }

def defaultAcOnly : AcOnly := { obcEfficiency := 940, phaseCount := 3 }

/-- R4: the DC profile's defaults. -/
def defaultDc : ProfileCommon :=
  { connectMin := 500, prechargeMin := 2000, holdMax := 60000, holdFilter := .confirmed
    confirmTime := 50, isocheckEnable := true, taperEnable := true, taperVoltage := 8200
    taperStep := 900, endCurrent := 100, releaseCurrent := 50, releaseMax := 3000
    releaseRest := 5000, maxCurrent := 4000, maxPower := 200000 }

def defaultDcOnly : DcOnly := { isocheckMax := 30000, matchWindow := 200 }

/-- R30: the EMPTY offer record. -/
def emptyOffer : Offer :=
  { state := .empty, source := .none, iOff := 0, vOff := .upTo 0, pOff := .upTo 0, hold := none }

/-- R28: SEQ after a cold start that reads DCC_FB open (R4, R5, R6); the empty rest record's profile and
instant are log entry 3. -/
def resetSeq : Seq :=
  { state := .idle, ctx := none, pendingStart := none
    ac := defaultAc, acOnly := defaultAcOnly, dc := defaultDc, dcOnly := defaultDcOnly
    settings := { switchRest := 8000, turnRest := 3000, contactorCheck := 150 }
    rest := { kind := .none, profile := .ac, endInstant := 0 }
    check := .none, faultLatch := false, lockHeld := false
    lockCmd := false, dccCmd := false, obcEn := false }

/-- R35: an invalid sensor; the value is not used while it is invalid (log entry 3). -/
def invalidSensor : Sensor := { value := 0, valid := false }

/-- R51: ALC after a cold start (R40 gives the derate table; T_min is UNKNOWN, so I_acc is read at the
default assumed_temp 0 of R54). -/
def resetAlc : Alc :=
  { offer := emptyOffer, sensors := Vector.replicate 4 invalidSensor, inletPin := invalidSensor
    derate := [(0, 1000), (45, 0)], pAvail := 0, iAcc := 1000
    targetSet := 0, appliedSet := 0, targetGrant := none, appliedGrant := none
    ceiling := none, quiet := false }

/-- R70, R54: HTR after a cold start. -/
def resetHtr : Htr :=
  { settings := { packHeatMax := 1800, packFloor := 6000, heatRest := 2000, checkAge := 600
                  hysteresis := 2, elementMax := 120, elementResume := 90, maxPackTemp := 40
                  assumedTemp := 0 }
    request := none, state := .idle, level := none, switch := false
    element := invalidSensor, lock := true, run := none }

/-- R96: an empty section record. -/
def emptyRecord : SectionRecord :=
  { result := none, fresh := false, overwrite := false, completed := 0, discarded := 0, dead := 0
    inconsistent := 0, skipped := 0 }

/-- R107: the level fields after a cold start. -/
def resetLevel : LevelRecord :=
  { lowRun := 0, faultRun := 0, goodRun := 0, level := .normal, latch := none }

/-- R96, R74, R105: ISM after a cold start. -/
def resetIsm : Ism :=
  { settings := { r0 := 500, settlePack := 1000, settleHeater := 300, settleInlet := 500
                  settlePackExtra := 1000, samples := 16, tolerance := 50, vRef := 8500 }
    scan := { mode := .off, first := .pack, last := .pack, period := 10, busy := false, step := none
              measured := false, timer := none }
    slotSeq := false, slotHeater := false, slotHost := none, flight := none
    pack := emptyRecord, heater := emptyRecord, inlet := emptyRecord
    packLevel := resetLevel, heaterLevel := resetLevel, scanOverrun := 0
    warn := 500, fault := 100 }

def zeroResidues : Residues := { inlet := 0, heater := 0, pack := 0 }

/-- R135: MTR after a cold start. -/
def resetMtr : Mtr :=
  { gate := .closed, intervalStart := 0, timing := .timed, residues := zeroResidues
    lastSample := none }

/-- R139, R140, R149, R164: BIL after a cold start. -/
def resetBil : Bil :=
  { clock := { valid := false, setDay := 0, setSeconds := 0, setInstant := 0 }
    accounts := []
    active := { generation := 0, windows := [(0, 0)], prices := Vector.replicate 4 0 }
    pendingTariff := none, counter := 0, queue := [], openRec := none }

/-- R172: a clear record with a route. -/
def clearKind (r : Route) : KindRecord :=
  { pending := false, count := 0, route := r, owed := false, latest := none }

/-- R172, R176: the kinds after a cold start, with RESTARTED COLD raised at instant 0; its notice is
owed until the outbound side takes it. -/
def startEvt (owed : Bool) : Evt :=
  { kinds := #v[
      { pending := true, count := 1, route := .notice, owed := owed
        latest := some (0, .restarted false) },
      clearKind .both, clearKind .both, clearKind .notice, clearKind .notice, clearKind .notice,
      clearKind .notice, clearKind .notice, clearKind .notice, clearKind .notice,
      clearKind .notice, clearKind .notice, clearKind .notice, clearKind .notice] }

def zeroCounts : LinkCounts :=
  { requests := 0, busy := 0, overruns := 0, gapErrors := 0, lengthErrors := 0, checkErrors := 0
    notices := 0 }

/-- R195: LNK when start-up is complete. -/
def startLnk : Lnk :=
  { rx := .hunt, slot := none, owedBusy := none, out := .free, counts := zeroCounts
    restartPending := false }

def zeroPowers : Powers := { inlet := 0, heater := 0, pack := 0 }

/-- No reading has arrived. R41, R60 and R71 count a voltage not read since a cold start as 0 for ALC, HTR
and ISM; that it is 0 for SEQ's match of R17 too is a DESIGN CHOICE (log entry 35), and so are the means
(log entry 3). -/
def resetMfe : Mfe :=
  { packVoltage := 0, dcInletVoltage := 0, lineVoltage := Vector.replicate 3 0, means := zeroPowers }

/-- The levels of the input pins at reset: the manual gives none (log entry 2). -/
def resetInputs : Inputs :=
  { plug := false, lockFb := false, dccFb := false, obcRdy := false, packLive := false }

/-- The part when start-up is complete after a cold start with DCC_FB open: RESTARTED COLD has been
raised (R176) and its notice is owed; the outbound side is FREE and the seven counts are 0 (R195). -/
def State.startUp : State :=
  { time := 0, inputs := resetInputs, mfe := resetMfe, seq := resetSeq, alc := resetAlc
    htr := resetHtr, ism := resetIsm, mtr := resetMtr, bil := resetBil, evt := startEvt true
    lnk := startLnk, pending := [] }

/-- The frame of the RESTARTED notice: kind 0, count 1, pending set {0}, age 0, COLD (sections 10.2 and
10.8). -/
def restartedFrame : List Byte := frameBytes 0x70 [0, 1, 1, 0, 0, 0, 0, 0, 0]

/-- The machine right after reset: `State.startUp` once its outbound side, FREE with a notice owed, has
taken it at that same instant (R188, R189), so that RESTARTED is the first frame the part sends (R195).
It is sent whole, 14 characters of 40 µs (R178), and counted as taken (R190). A request taken at the
completion instant itself is taken after it (log entry 7). -/
def State.reset : State :=
  { State.startUp with
    evt := startEvt false
    lnk := { startLnk with
      out := .sending restartedFrame 560 false, counts := { zeroCounts with notices := 1 } } }

end Sys2Proof.Machine
end

