-- ==== Sys2Proof/Machine/Ops.lean ====
section
/-! DEFINITION. Shared operations: the time base, counts that stop, field lookups by profile, section and
level, the rest rule (R7), and the temperature figures (R36, R37). A block takes no processor's kind of
exception: what the part raises are events (Flags.lean). -/
namespace Sys2Proof.Machine
open Sys2Proof

/-! ## Time and counts -/

/-- Whole milliseconds of the time base (R119). -/
def State.nowMs (s : State) : Nat := s.time / 1000

/-- A command arrives: the time base has run on, and MFE stands ready with its channel means. -/
def arrive (a : Arrival) (s : State) : State :=
  (s.withTime (s.time + a.elapsed)).withMfe { s.mfe with means := a.means }

/-- A count that increases by one and stops at its limit. -/
def bump (limit n : Nat) : Nat := if n < limit then n + 1 else n

/-- A 16-bit count (R93, R190). -/
def bump16 (n : Nat) : Nat := bump Config.max16 n

/-- A number stopped at a limit. -/
def capAt (limit n : Nat) : Nat := if n ≤ limit then n else limit

/-- An age in ms, stopping at the u32 limit (R95, R134, R171). -/
def ageMs (now instant : Nat) : Nat := capAt Config.max32 (now - instant)

/-! ## Sequencer lookups -/

def Seq.common (q : Seq) : Profile → ProfileCommon
  | .ac => q.ac
  | .dc => q.dc

/-- R1: the open phases are CONNECT through TAPER. -/
def SeqState.isOpenPhase : SeqState → Bool
  | .connect | .isocheck | .precharge | .energy | .taper => true
  | .idle | .waitingRest | .release => false

/-- ENERGY or TAPER. -/
def SeqState.delivers : SeqState → Bool
  | .energy | .taper => true
  | .idle | .waitingRest | .connect | .isocheck | .precharge | .release => false

/-- R1: a session is open exactly while a session context stands. -/
def State.sessionOpen (s : State) : Bool := s.seq.ctx.isSome

def State.ctxProfile? (s : State) : Option Profile := s.seq.ctx.map (·.profile)

/-- An AC session is open. -/
def State.acSession (s : State) : Bool := s.ctxProfile? == some .ac

/-- R19: SETPOINT carries ALC's applied setpoint in ENERGY and TAPER, and 0 otherwise. -/
def State.setpoint (s : State) : Nat := if s.seq.state.delivers then s.alc.appliedSet else 0

/-! ## Rests (R7) -/

/-- The next operation a rest is asked for. -/
inductive NextOp where
  | charge (p : Profile)
  | packHeat
deriving DecidableEq, Repr

/-- R7: the largest of the parameters of the pair. -/
def requiredRest (s : State) (next : NextOp) : Nat :=
  let rest := s.seq.rest
  let releaseRest := (s.seq.common rest.profile).releaseRest
  match rest.kind, next with
  | .none, _ => 0
  | .charge, .charge p =>
      if p = rest.profile then releaseRest else max releaseRest s.seq.settings.switchRest
  | .charge, .packHeat => max releaseRest s.seq.settings.turnRest
  | .packHeat, .packHeat => s.htr.settings.heatRest
  | .packHeat, .charge _ => max s.htr.settings.heatRest s.seq.settings.turnRest

/-- R7: the rest has elapsed from this instant (ms) on. -/
def restExpiry (s : State) (next : NextOp) : Nat := s.seq.rest.endInstant + requiredRest s next

def restElapsed (s : State) (next : NextOp) : Bool := restExpiry s next ≤ s.nowMs

/-! ## Temperatures (R35 to R37) -/

/-- R36: the values of the valid pack sensors. -/
def Alc.validTemps (a : Alc) : List Int :=
  a.sensors.toList.filterMap fun q => if q.valid then some q.value else none

/-- R36: lowest valid pack temperature; `none` is UNKNOWN. -/
def Alc.tMin (a : Alc) : Option Int :=
  match a.validTemps with
  | [] => none
  | t :: ts => some (ts.foldl min t)

/-- R36: highest valid pack temperature; `none` is UNKNOWN. -/
def Alc.tMax (a : Alc) : Option Int :=
  match a.validTemps with
  | [] => none
  | t :: ts => some (ts.foldl max t)

/-- R36, R61: T_min, or assumed_temp while it is UNKNOWN. -/
def State.tMinUsed (s : State) : Int := s.alc.tMin.getD s.htr.settings.assumedTemp

/-- R61: T_max, or assumed_temp while it is UNKNOWN. -/
def State.tMaxUsed (s : State) : Int := s.alc.tMax.getD s.htr.settings.assumedTemp

/-- A reading counts as valid when MFE marks it so and its value is in range (R35, R37, R65). -/
def readingValid (r : Reading) (lo hi : Int) : Bool := r.marked && decide (lo ≤ r.value ∧ r.value ≤ hi)

/-- R165: why an invalid reading is invalid. DESIGN CHOICE (log entry 36): R165 orders its two reasons
nowhere, and a reading that is both marked invalid and out of range is MARKED_INVALID. -/
def readingReason (r : Reading) : SensorReason := if r.marked then .outOfRange else .markedInvalid

/-- R37: the inlet factor, per mille. -/
def Alc.factor (a : Alc) : Nat :=
  if a.inletPin.valid then
    if a.inletPin.value ≤ 70 then 1000
    else if 90 ≤ a.inletPin.value then 0
    else ((90 - a.inletPin.value) * 50).toNat
  else 500

/-! ## Heater levels (R52, R44) -/

/-- The level's place in the order by power, which is its code on the link (section 10.4). -/
def Level.code : Level → Nat
  | .l1 => 1 | .l2 => 2 | .l3 => 3 | .l4 => 4 | .l5 => 5 | .l6 => 6 | .l7 => 7 | .l8 => 8
  | .h5 => 9 | .h6 => 10 | .h7 => 11 | .h8 => 12

/-- R52: power in W. -/
def Level.power : Level → Nat
  | .l1 => 300 | .l2 => 600 | .l3 => 900 | .l4 => 1200 | .l5 => 1500 | .l6 => 1800
  | .l7 => 2100 | .l8 => 2400 | .h5 => 7500 | .h6 => 9000 | .h7 => 10500 | .h8 => 12000

/-- The levels, highest first. -/
def Level.descending : List Level := [.h8, .h7, .h6, .h5, .l8, .l7, .l6, .l5, .l4, .l3, .l2, .l1]

/-- Code of a level or NONE. -/
def levelCode : Option Level → Nat
  | none => 0
  | some l => l.code

/-- Power of a level or NONE. -/
def levelPower : Option Level → Nat
  | none => 0
  | some l => l.power

/-- R44: the highest level no higher than the requested one whose power is at or below x. -/
def grant (requested : Level) (x : Nat) : Option Level :=
  Level.descending.find? fun l => decide (l.code ≤ requested.code ∧ l.power ≤ x)

/-! ## Sections (R71) -/

/-- R71: the section's number. -/
def Section.num : Section → Nat
  | .pack => 0
  | .heater => 1
  | .inlet => 2

/-- The section after this one in the order PACK, HEATER, INLET. -/
def Section.next : Section → Option Section
  | .pack => some .heater
  | .heater => some .inlet
  | .inlet => none

def Ism.record (i : Ism) : Section → SectionRecord
  | .pack => i.pack
  | .heater => i.heater
  | .inlet => i.inlet

def Ism.withRecord (i : Ism) (sec : Section) (r : SectionRecord) : Ism :=
  match sec with
  | .pack => { i with pack := r }
  | .heater => { i with heater := r }
  | .inlet => { i with inlet := r }

/-- R107: the level fields of PACK and HEATER; INLET carries none. -/
def Ism.levelRecord? (i : Ism) : Section → Option LevelRecord
  | .pack => some i.packLevel
  | .heater => some i.heaterLevel
  | .inlet => none

def Ism.withLevel (i : Ism) (sec : Section) (l : LevelRecord) : Ism :=
  match sec with
  | .pack => { i with packLevel := l }
  | .heater => { i with heaterLevel := l }
  | .inlet => i

/-- R71: whether a section is measurable on the present inputs. -/
def measurable (s : State) : Section → Bool
  | .pack => s.inputs.packLive
  | .heater => !s.htr.switch
  | .inlet => !s.seq.dccCmd && decide (Config.minVoltage ≤ s.mfe.dcInletVoltage)

/-- R75: S+ is closed in SETTLE_A and SAMPLE_A. -/
def Ism.injP (i : Ism) : Bool :=
  match i.flight with
  | some m => match m.phase with
    | .settleA | .sampleA => true
    | .settleB | .sampleB => false
  | none => false

/-- R75: S− is closed in SETTLE_B and SAMPLE_B. -/
def Ism.injN (i : Ism) : Bool :=
  match i.flight with
  | some m => match m.phase with
    | .settleA | .sampleA => false
    | .settleB | .sampleB => true
  | none => false

/-! ## The billing queue's places (R157) -/

/-- R157: free places of the billing queue. -/
def freePlaces (s : State) : Nat :=
  Config.queuePlaces - s.bil.queue.length
    - (if s.sessionOpen then 1 else 0) - (if s.seq.pendingStart.isSome then 1 else 0)

end Sys2Proof.Machine
end

