-- ==== Sys2Proof/Machine/Flags.lean ====
section
/-! DEFINITION. The Event Unit's flags: kind numbers (R165), raising an event (R167), the pending and
owed sets (R166, R169), ALERT (R170), and the clears and routes of R173 and R174. -/
namespace Sys2Proof.Machine
open Sys2Proof

/-- R165: the kind number. -/
def EventKind.num : EventKind → Fin 14
  | .restarted => 0 | .contactorFault => 1 | .isoLevel => 2 | .mainsLoss => 3 | .offerStale => 4
  | .sensorFault => 5 | .linkError => 6 | .sessionPhase => 7 | .heatState => 8 | .isoResult => 9
  | .isoOverwrite => 10 | .sessionEnd => 11 | .recordReady => 12 | .queueLow => 13

/-- The kind whose data this is (R165). -/
def EventData.kind : EventData → EventKind
  | .restarted _ => .restarted
  | .contactorFault _ _ => .contactorFault
  | .isoLevel _ _ _ _ => .isoLevel
  | .mainsLoss _ _ => .mainsLoss
  | .offerStale _ _ _ _ => .offerStale
  | .sensorFault _ _ => .sensorFault
  | .linkError _ => .linkError
  | .sessionPhase _ _ => .sessionPhase
  | .heatState _ _ _ _ _ => .heatState
  | .isoResult _ _ _ => .isoResult
  | .isoOverwrite _ => .isoOverwrite
  | .sessionEnd _ _ => .sessionEnd
  | .recordReady _ _ => .recordReady
  | .queueLow _ => .queueLow

/-- The route includes NOTICE. -/
def Route.notifies : Route → Bool
  | .notice | .both => true
  | .none | .alert => false

/-- The route includes ALERT. -/
def Route.alerts : Route → Bool
  | .alert | .both => true
  | .none | .notice => false

/-- A kind's record, by kind number. -/
def Evt.at (e : Evt) (k : Fin 14) : KindRecord := e.kinds[k]

def Evt.setAt (e : Evt) (k : Fin 14) (r : KindRecord) : Evt := { kinds := e.kinds.set k r }

/-- R167, steps 1 to 4. -/
def KindRecord.raise (r : KindRecord) (now : Nat) (d : EventData) : KindRecord :=
  { pending := true
    count := bump Config.max8 r.count
    route := r.route
    owed := r.owed || (!r.pending && r.route.notifies)
    latest := some (now, d) }

/-- R167: EVT takes a raise. -/
def Evt.raise (e : Evt) (now : Nat) (d : EventData) : Evt :=
  e.setAt d.kind.num ((e.at d.kind.num).raise now d)

/-- A block raises an event at the present instant. -/
def raise (d : EventData) (s : State) : State := s.withEvt (s.evt.raise s.nowMs d)

/-- The kind numbers, lowest first. -/
def kindNumbers : List (Fin 14) := [0, 1, 2, 3, 4, 5, 6, 7, 8, 9, 10, 11, 12, 13]

/-- The mask of the kinds with a property (R196: kind n is bit n). -/
def Evt.mask (e : Evt) (p : KindRecord → Bool) : Nat :=
  kindNumbers.foldl (fun m k => if p (e.at k) then m + 2 ^ k.val else m) 0

/-- R166: the pending set. -/
def Evt.pendingSet (e : Evt) : Nat := e.mask (·.pending)

/-- R169: the owed set. -/
def Evt.owedSet (e : Evt) : Nat := e.mask (·.owed)

/-- R170: ALERT is active exactly when some pending kind is routed to it. -/
def Evt.alert (e : Evt) : Bool :=
  kindNumbers.any fun k => (e.at k).pending && (e.at k).route.alerts

/-- R169: the owed kind with the lowest number. -/
def Evt.lowestOwed (e : Evt) : Option (Fin 14) := kindNumbers.find? fun k => (e.at k).owed

/-- Apply a change to the record of each kind named in a mask. -/
def Evt.onMask (e : Evt) (kinds : Half) (f : KindRecord → KindRecord) : Evt :=
  { kinds := Vector.ofFn fun k => if kinds.getLsbD k.val then f (e.at k) else e.at k }

/-- R174: clear one kind's record; the route stays. -/
def KindRecord.clear (r : KindRecord) : KindRecord := clearKind r.route

/-- R173: give one kind a route; an owed notice is withdrawn when the route lacks NOTICE. -/
def KindRecord.setRoute (route : Route) (r : KindRecord) : KindRecord :=
  { r with route := route, owed := r.owed && route.notifies }

/-- R199: a kinds mask with bit 14 or 15 set names no kind. -/
def kindsMaskOk (kinds : Half) : Bool := decide (kinds.toNat < 2 ^ 14)

end Sys2Proof.Machine
end

