-- ==== Sys2Proof/Machine/Operands.lean ====
section
/-! DEFINITION. The operand forms of the link: the enumeration codes of section 10.4 in both directions
(a code outside its set is `none`, which the owner answers RANGE, R199), the reply statuses, and the
byte layouts of the notices and of the session record (sections 10.6 to 10.8). -/
namespace Sys2Proof.Machine
open Sys2Proof

/-! ## Reply statuses -/

inductive Status where
  | ok | clamped | busy | state | range | length | unknown | full | latched | noRecord | mismatch
  | notFound
deriving DecidableEq, Repr

def Status.code : Status → Byte
  | .ok => 0 | .clamped => 1 | .busy => 2 | .state => 3 | .range => 4 | .length => 5 | .unknown => 6
  | .full => 7 | .latched => 8 | .noRecord => 9 | .mismatch => 10 | .notFound => 11

/-- A reply that carries its status alone (R187). -/
def bare (st : Status) : List Byte := [st.code]

/-! ## Enumerations a request carries -/

def boolOf : Byte → Option Bool
  | 0 => some false
  | 1 => some true
  | _ => none

def profileOf : Byte → Option Profile
  | 0 => some .ac
  | 1 => some .dc
  | _ => none

def policyOf : Byte → Option Policy
  | 0 => some .heatFirst
  | 1 => some .chargeFirst
  | _ => none

def holdFilterOf : Byte → Option HoldFilter
  | 0 => some .direct
  | 1 => some .confirmed
  | _ => none

def heatPolicyOf : Byte → Option HeatPolicy
  | 0 => some .inletOnly
  | 1 => some .inletOrPack
  | _ => none

def sectionOf : Byte → Option Section
  | 0 => some .pack
  | 1 => some .heater
  | 2 => some .inlet
  | _ => none

def scanModeOf : Byte → Option ScanMode
  | 0 => some .off
  | 1 => some .single
  | 2 => some .periodic
  | 3 => some .continuous
  | _ => none

def heaterBillingOf : Byte → Option HeaterBilling
  | 0 => some .account
  | 1 => some .operator
  | _ => none

def routeOf : Byte → Option Route
  | 0 => some .none
  | 1 => some .notice
  | 2 => some .alert
  | 3 => some .both
  | _ => none

/-- ISO_MEASURE's target: a section, or PASS. -/
inductive MeasureTarget where
  | pass
  | sec (s : Section)
deriving DecidableEq, Repr

def measureTargetOf : Byte → Option MeasureTarget
  | 0 => some (.sec .pack)
  | 1 => some (.sec .heater)
  | 2 => some (.sec .inlet)
  | 3 => some .pass
  | _ => none

/-- R56: the level used for a level_range and level_step (LOW is `false`), and whether it differs from
the one named. -/
def levelUsed (high : Bool) (step : Nat) : Level × Bool :=
  match high, step with
  | false, 0 => (.l1, true)
  | false, 1 => (.l1, false)
  | false, 2 => (.l2, false)
  | false, 3 => (.l3, false)
  | false, 4 => (.l4, false)
  | false, 5 => (.l5, false)
  | false, 6 => (.l6, false)
  | false, 7 => (.l7, false)
  | false, 8 => (.l8, false)
  | false, _ => (.l8, true)
  | true, 5 => (.h5, false)
  | true, 6 => (.h6, false)
  | true, 7 => (.h7, false)
  | true, 8 => (.h8, false)
  | true, n => if n ≤ 4 then (.l8, true) else (.h8, true)

/-! ## Enumerations the part sends -/

def boolCode (b : Bool) : Nat := if b then 1 else 0

def Profile.code : Profile → Nat
  | .ac => 0 | .dc => 1

def Policy.code : Policy → Nat
  | .heatFirst => 0 | .chargeFirst => 1

def SeqState.code : SeqState → Nat
  | .idle => 0 | .waitingRest => 1 | .connect => 2 | .isocheck => 3 | .precharge => 4 | .energy => 5
  | .taper => 6 | .release => 7

def EndCause.code : EndCause → Nat
  | .hostStop => 1 | .complete => 2 | .cap => 3 | .offerStale => 4 | .holdTimeout => 5
  | .inletIso => 6 | .isocheckFail => 7 | .isocheckTimeout => 8 | .isoFault => 9 | .contactor => 10
  | .unplug => 11 | .packOff => 12 | .mainsLoss => 13 | .inletHot => 14

/-- 0 is the absent cause. -/
def endCauseCode : Option EndCause → Nat
  | none => 0
  | some c => c.code

def OfferState.code : OfferState → Nat
  | .empty => 0 | .live => 1 | .stale => 2

def OfferSource.code : OfferSource → Nat
  | .none => 0 | .line => 1 | .host => 2

def HeatState.code : HeatState → Nat
  | .idle => 0 | .pending => 1 | .check => 2 | .on => 3 | .satisfied => 4

def HeatSource.code : HeatSource → Nat
  | .none => 0 | .inlet => 1 | .pack => 2

def HeatEnd.code : HeatEnd → Nat
  | .expired => 1 | .cancelled => 2 | .isoFault => 3 | .isoCheck => 4 | .restart => 5
  | .superseded => 6 | .sourceLost => 7 | .element => 8

/-- 0 is no cause. -/
def heatEndCode : Option HeatEnd → Nat
  | none => 0
  | some c => c.code

def ScanMode.code : ScanMode → Nat
  | .off => 0 | .single => 1 | .periodic => 2 | .continuous => 3

def Slot.code : Slot → Nat
  | .sequencer => 0 | .heater => 1 | .host => 2 | .scan => 3

/-- Network state; 0 is FREE. -/
def netCode : Option Measurement → Nat
  | none => 0
  | some m => match m.phase with
    | .settleA => 1
    | .sampleA => 2
    | .settleB => 3
    | .sampleB => 4

def IsoLevel.code : IsoLevel → Nat
  | .normal => 0 | .warning => 1 | .fault => 2

def Gate.code : Gate → Nat
  | .closed => 0 | .opened => 1

def Timing.code : Timing → Nat
  | .timed => 0
  | .mains _ _ => 1

def Timing.cycles : Timing → Nat
  | .timed => 0
  | .mains c _ => c

def SampleKind.code : SampleKind → Nat
  | .full => 0 | .boundary => 1 | .gateClose => 2 | .mainsLoss => 2

/-- Partial cause; 0 is none. -/
def SampleKind.partialCode : SampleKind → Nat
  | .full => 0 | .boundary => 0 | .gateClose => 1 | .mainsLoss => 2

/-- The sample is PARTIAL (R120). -/
def SampleKind.isPartial : SampleKind → Bool
  | .gateClose | .mainsLoss => true
  | .full | .boundary => false

def Destination.code : Destination → Nat
  | .none => 0 | .session => 1 | .run => 2

def FaultCase.code : FaultCase → Nat
  | .closeCheck => 0 | .opened => 1 | .weld => 2 | .coldStart => 3

def SensorId.code : SensorId → Nat
  | .pack n => n.val
  | .inletPin => 4
  | .element => 5

def SensorReason.code : SensorReason → Nat
  | .markedInvalid => 0 | .outOfRange => 1

def LinkReason.code : LinkReason → Nat
  | .gap => 0 | .length => 1 | .check => 2 | .overrun => 3

/-! ## Field forms (R196) -/

/-- A limit in a u16: unlimited is the largest value. -/
def putLimit16 : Limit → List Byte
  | .upTo n => putU16 n
  | .unlimited => putU16 Config.max16

/-- A limit in a u32. -/
def putLimit32 : Limit → List Byte
  | .upTo n => putU32 n
  | .unlimited => putU32 Config.max32

/-- A temperature in an i8: UNKNOWN is −128. -/
def putTemp : Option Int → List Byte
  | some t => putI8 t
  | none => putI8 (-128)

def putU32s (v : Vector Nat 4) : List Byte := putU32 v[0] ++ putU32 v[1] ++ putU32 v[2] ++ putU32 v[3]

/-! ## The data of a notice (section 10.8) -/

/-- The run part of HEAT_STATE: duration, energies, highest level, end cause; zeros when absent. -/
def putRun : Option RunRecord → List Byte
  | none => putU8 0 ++ putU32 0 ++ putI32 0 ++ putU32 0 ++ putU8 0 ++ putU8 0
  | some r =>
      let ended := match r.ended with
        | some (t, _) => t
        | none => r.start
      putU8 1 ++ putU32 (ageMs ended r.start) ++ putI32 r.packEnergy ++ putU32 r.heaterEnergy
        ++ putU8 r.highest.code ++ putU8 (heatEndCode (r.ended.map (·.2)))

/-- Outcome, reason, bus voltages, resistances, figure and OVER of ISO_RESULT. -/
def putOutcome : IsoOutcome → List Byte
  | .result vbA vbB rp rn rIso figure isOver =>
      putU8 0 ++ putU8 0 ++ putU16 vbA ++ putU16 vbB ++ putU16 rp ++ putU16 rn ++ putU16 rIso
        ++ putU32 figure ++ putU8 (boolCode isOver)
  | .dead vbA vbB =>
      putU8 1 ++ putU8 0 ++ putU16 vbA ++ putU16 vbB ++ putU16 0 ++ putU16 0 ++ putU16 0
        ++ putU32 0 ++ putU8 0
  | .tolerance vbA vbB =>
      putU8 2 ++ putU8 0 ++ putU16 vbA ++ putU16 vbB ++ putU16 0 ++ putU16 0 ++ putU16 0
        ++ putU32 0 ++ putU8 0
  | .polarity vbA vbB =>
      putU8 2 ++ putU8 1 ++ putU16 vbA ++ putU16 vbB ++ putU16 0 ++ putU16 0 ++ putU16 0
        ++ putU32 0 ++ putU8 0

def EventData.bytes : EventData → List Byte
  | .restarted warm => putU8 (boolCode warm)
  | .contactorFault c held => putU8 c.code ++ putU8 (boolCode held)
  | .isoLevel sec before after cause =>
      putU8 sec.num ++ putU8 before.code ++ putU8 after.code ++ putU32 (cause.getD Config.max32)
  | .mainsLoss cycles duration => putU8 cycles ++ putU32 duration
  | .offerStale source iOff vOff pOff =>
      putU8 source.code ++ putU16 iOff ++ putLimit16 vOff ++ putLimit32 pOff
  | .sensorFault sensor reason => putU8 sensor.code ++ putU8 reason.code
  | .linkError reason => putU8 reason.code
  | .sessionPhase st cause => putU8 st.code ++ putU8 (endCauseCode cause)
  | .heatState st source level cause run =>
      putU8 st.code ++ putU8 source.code ++ putU8 (levelCode level) ++ putU8 (heatEndCode cause)
        ++ putRun run
  | .isoResult sec slot outcome => putU8 sec.num ++ putU8 slot.code ++ putOutcome outcome
  | .isoOverwrite sec => putU8 sec.num
  | .sessionEnd sequence cause => putU32 sequence ++ putU8 cause.code
  | .recordReady sequence closed => putU32 sequence ++ putU8 closed
  | .queueLow free => putU8 free

/-- Kind of a notice frame (section 10.2). -/
def noticeKind : Byte := 0x70

/-- R171, section 10.8: the payload of a notice for kind `k`, built at `now` ms. -/
def noticePayload (e : Evt) (k : Fin 14) (now : Nat) : List Byte :=
  let r := e.at k
  match r.latest with
  | some (t, d) =>
      putU8 k.val ++ putU8 r.count ++ putU16 e.pendingSet ++ putU32 (ageMs now t) ++ d.bytes
  | none => putU8 k.val ++ putU8 r.count ++ putU16 e.pendingSet ++ putU32 0

/-! ## The session record (section 10.7) -/

def ClosedRecord.bytes (r : ClosedRecord) : List Byte :=
  putU32 r.sequence ++ putU32 r.account
    ++ putU8 (r.profile.code + 2 * r.policy.code + 16 * boolCode r.untimed
        + 32 * boolCode r.partial_ + 64 * boolCode r.minIso.isSome)
    ++ putU8 r.endCause.code ++ putU8 r.generation ++ putU8 0
    ++ putU16 r.startDay ++ putU32 r.startSeconds ++ putU16 r.endDay ++ putU32 r.endSeconds
    ++ putU32s r.band ++ putU32s r.heaterBand ++ putI32 r.netPack ++ putU32 r.cost
    ++ (match r.minIso with
        | some f => putU32 f
        | none => [])

end Sys2Proof.Machine
end

