-- ==== Sys2Proof/Machine/Link.lean ====
section
/-! DEFINITION. LNK's shared operations: the link counts (R190), the outbound side's taking of the first
waiting item (R188), and what a completed well-formed frame meets at the request slot (R183 to R185). -/
namespace Sys2Proof.Machine
open Sys2Proof

/-- Change the link counts. -/
def count (f : LinkCounts → LinkCounts) (s : State) : State :=
  s.withLnk { s.lnk with counts := f s.lnk.counts }

/-! ## The outbound side -/

/-- R188: LINK_TX begins a frame; it is sent whole, one character each 40 µs (R178). -/
def sendFrame (kind : Byte) (payload : List Byte) (restart : Bool) (s : State) : State :=
  let bytes := frameBytes kind payload
  s.withLnk { s.lnk with out := .sending bytes (s.time + bytes.length * Config.charTime) restart }

/-- A reply's kind is the request's with the top bit set (R187). -/
def replyKind (k : Byte) : Byte := k ||| 0x80#8

/-- The RESTART request's kind. -/
def restartKind : Byte := 0x61

/-- R186, R188: the reply leaves the slot. -/
def takeReply (r : SlotRequest) (s : State) : State :=
  sendFrame (replyKind r.kind) r.reply (s.lnk.restartPending && r.kind == restartKind)
    (s.withLnk { s.lnk with slot := none })

/-- R184, R188: the owed BUSY leaves its record. -/
def takeBusy (k : Byte) (s : State) : State :=
  sendFrame (replyKind k) (bare .busy) false (s.withLnk { s.lnk with owedBusy := none })

/-- R169, R188: a notice is built from the kind's record as it stands, and is no longer owed. -/
def takeNotice (k : Fin 14) (s : State) : State :=
  let payload := noticePayload s.evt k s.nowMs
  let s := s.withEvt (s.evt.setAt k { s.evt.at k with owed := false })
  sendFrame noticeKind payload false (count (fun c => { c with notices := bump16 c.notices }) s)

/-- R188: a FREE outbound side takes the reply, then the owed BUSY, then the owed notice with the
lowest kind number; a SENDING one takes nothing. It runs at the end of each arrival (log entry 7). -/
def pump (s : State) : State :=
  match s.lnk.out with
  | .sending _ _ _ => s
  | .free =>
    match s.lnk.slot with
    | some r => takeReply r s
    | none =>
      match s.lnk.owedBusy with
      | some k => takeBusy k s
      | none =>
        match s.evt.lowestOwed with
        | some k => takeNotice k s
        | none => s

/-! ## The request slot -/

/-- An owner's handling of a request: its changes, and its reply's payload. -/
abbrev Owner := State → State × List Byte

/-- R183: the frame is taken into the slot and counted, its owner handles it at this instant, and the
reply waits in the slot. -/
def takeRequest (kind : Byte) (owner : Owner) (s : State) : State :=
  let (s, reply) := owner (count (fun c => { c with requests := bump16 c.requests }) s)
  s.withLnk { s.lnk with slot := some { kind := kind, reply := reply } }

/-- R184: the frame is refused, and one BUSY is owed. -/
def oweBusy (kind : Byte) (s : State) : State :=
  let s := count (fun c => { c with busy := bump16 c.busy }) s
  s.withLnk { s.lnk with owedBusy := some kind }

/-- R185: the frame is discarded as an overrun. -/
def overrun (s : State) : State :=
  raise (.linkError .overrun) (count (fun c => { c with overruns := bump16 c.overruns }) s)

/-- R183: the slot is empty, no BUSY is owed and no warm restart is pending. -/
def slotReady (s : State) : Bool :=
  s.lnk.owedBusy.isNone && s.lnk.slot.isNone && !s.lnk.restartPending

/-- R183 to R185: a well-formed frame of this kind completes. -/
def frameComplete (kind : Byte) (owner : Owner) (s : State) : State :=
  if s.lnk.owedBusy.isSome then overrun s
  else if s.lnk.slot.isSome || s.lnk.restartPending then oweBusy kind s
  else takeRequest kind owner s

/-- A host request as a command: its well-formed frame completes at this arrival (log entry 5), and
the outbound side takes what waits. -/
def requestArrival (a : Arrival) (kind : Byte) (owner : Owner) (s : State) : State :=
  pump (frameComplete kind owner (arrive a s))

end Sys2Proof.Machine
end

