-- ==== Sys2Proof/Machine/Billing.lean ====
section
/-! DEFINITION. BIL's shared operations: the clock (R137), the band (R145), a session's sample (R151 to
R153), its minimum insulation (R154), the open and the close of its record (R150, R155, R156, R159), and
the activation of a pending tariff (R148). -/
namespace Sys2Proof.Machine
open Sys2Proof

/-- R137: the clock's reading at an instant, µs. -/
def Clock.read (c : Clock) (t : Nat) : ClockReading :=
  let total := c.setSeconds + (t - c.setInstant) / 1000000
  { valid := c.valid, day := (c.setDay + total / 86400) % 65536, seconds := total % 86400 }

def readClock (s : State) : ClockReading := s.bil.clock.read s.time

/-- R145: the window in force at a minute: the last one starting at or before it, or else the last of
the table, which runs past midnight. A table always has a window (log entry 17 for an empty list). -/
def windowBand (ws : List (Nat × Fin 4)) (minute : Nat) : Fin 4 :=
  match (ws.filter fun w => decide (w.1 ≤ minute)).getLast? with
  | some w => w.2
  | none => match ws.getLast? with
    | some w => w.2
    | none => 0

/-- R145: the band of a clock reading. -/
def bandOf (t : Tariff) (r : ClockReading) : Fin 4 :=
  if r.valid then windowBand t.windows (r.seconds / 60) else 0

/-- R152: an addition to a signed total stops at the 32-bit limits, and a total at a limit stays there
whatever is added later. DESIGN CHOICE (log entry 34): one that met a limit exactly counts as stopped. -/
def addI32 (a b : Int) : Int :=
  if a ≤ Config.minI32 ∨ Config.maxI32 ≤ a then a
  else if a + b < Config.minI32 then Config.minI32
  else if Config.maxI32 < a + b then Config.maxI32 else a + b

/-- R152: an addition to an unsigned total stops at the 32-bit limit. -/
def addU32 (a b : Nat) : Nat := capAt Config.max32 (a + b)

/-- The sum of the four bands. -/
def bandSum (v : Vector Nat 4) : Nat := v[0] + v[1] + v[2] + v[3]

/-- R151, steps 1 to 4: one sample of the session; the energies are whole mWh. -/
def OpenRecord.addSample (r : OpenRecord) (table : Tariff) (reading : ClockReading)
    (kind : SampleKind) (inlet heater : Nat) (pack : Int) : OpenRecord :=
  let b := bandOf table reading
  { r with
    band := r.band.set b (r.band[b] + inlet)
    heaterBand := r.heaterBand.set b (addU32 r.heaterBand[b] heater)
    netPack := addI32 r.netPack pack
    untimed := r.untimed || !reading.valid
    partial_ := r.partial_ || kind.isPartial }

/-- R151: BIL takes a session sample ending at the present instant. -/
def billSample (kind : SampleKind) (inlet heater : Nat) (pack : Int) (s : State) : State :=
  match s.bil.openRec with
  | some r =>
    s.withBil { s.bil with
      openRec := some (r.addSample s.bil.active (readClock s) kind inlet heater pack) }
  | none => s

/-- R152, R153: the limit of the cap test, in mWh. -/
def OpenRecord.capLimit (r : OpenRecord) : Nat :=
  min (r.cap.getD Config.capCeilingWh) Config.capCeilingWh * 1000

/-- R153: the band energies have reached the cap limit. -/
def capReached (s : State) : Bool :=
  match s.bil.openRec with
  | some r => decide (r.capLimit ≤ bandSum r.band)
  | none => false

/-- R154: a PACK RESULT stored while a session is open. -/
def noteInsulation (figure : Nat) (s : State) : State :=
  match s.bil.openRec with
  | some r =>
    let low := match r.minIso with
      | some m => min m figure
      | none => figure
    s.withBil { s.bil with openRec := some { r with minIso := some low } }
  | none => s

/-- R148: a pending tariff table becomes the active one. -/
def Bil.activatePending (b : Bil) : Bil :=
  match b.pendingTariff with
  | some t => { b with active := t, pendingTariff := none }
  | none => b

def findAccount (s : State) (id : Nat) : Option Account := s.bil.accounts.find? fun a => a.id == id

/-- R150: who bears heater energy, from the account's entry at the open (log entry 17 when there is
none, which R141 and R142 rule out). -/
def billingOf (s : State) (id : Nat) : HeaterBilling :=
  match findAccount s id with
  | some a => a.billing
  | none => .account

/-- R143: the effective cap of a start, and whether energy_cap was brought down. -/
def effectiveCap (energyCap accountCap : Nat) : Option Nat × Bool :=
  if energyCap = 0 then (if accountCap = 0 then (none, false) else (some accountCap, false))
  else if accountCap = 0 then (some energyCap, false)
  else if energyCap ≤ accountCap then (some energyCap, false)
  else (some accountCap, true)

/-- BIL's part of an open (R11, R148, R150, R162). -/
def openRecord (p : PendingStart) (s : State) : State :=
  let b := { s.bil with counter := s.bil.counter + 1 }.activatePending
  let start := readClock s
  s.withBil { b with
    openRec := some
      { sequence := b.counter, account := p.account, profile := p.profile, policy := p.policy
        billing := billingOf s p.account, cap := p.cap, generation := b.active.generation
        start := start, band := Vector.replicate 4 0, heaterBand := Vector.replicate 4 0
        netPack := 0, untimed := !start.valid, partial_ := false, minIso := none } }

/-- R156: the billable energy of a band. -/
def OpenRecord.billable (r : OpenRecord) (b : Fin 4) : Nat :=
  match r.billing with
  | .account => r.band[b]
  | .operator => r.band[b] - r.heaterBand[b]

/-- R156: the cost, in milli-units, stopping at the u32 limit. -/
def OpenRecord.cost (r : OpenRecord) (t : Tariff) : Nat :=
  capAt Config.max32
    ((r.billable 0 * t.prices[0] + r.billable 1 * t.prices[1] + r.billable 2 * t.prices[2]
      + r.billable 3 * t.prices[3] + 500) / 1000)

/-- R155, steps 1 and 2: the closed record. -/
def OpenRecord.close (r : OpenRecord) (t : Tariff) (e : ClockReading) (cause : EndCause) :
    ClosedRecord :=
  { sequence := r.sequence, account := r.account, profile := r.profile, policy := r.policy
    generation := r.generation, startDay := r.start.day, startSeconds := r.start.seconds
    endDay := e.day, endSeconds := e.seconds, endCause := cause, band := r.band
    heaterBand := r.heaterBand, netPack := r.netPack, cost := r.cost t
    untimed := r.untimed || !e.valid, partial_ := r.partial_, minIso := r.minIso }

/-- R155, step 5: SESSION_END, RECORD_READY and QUEUE_LOW at a join. A join leaves the free places as
they were (R158): the session's reservation still counts until its context is removed, so the free
places after it are counted without it. -/
def raiseJoin (sequence : Nat) (cause : EndCause) (s : State) : State :=
  let closed := s.bil.queue.length
  let free := Config.queuePlaces - closed
  let s := raise (.recordReady sequence closed) (raise (.sessionEnd sequence cause) s)
  if free ≤ Config.queueLow then raise (.queueLow free) s else s

/-- R155: the open-session record closes into the queue; R122 drops the residues. -/
def closeRecord (cause : EndCause) (s : State) : State :=
  match s.bil.openRec with
  | some r =>
    let closed := r.close s.bil.active (readClock s) cause
    let b := { s.bil with queue := s.bil.queue ++ [closed], openRec := none }.activatePending
    raiseJoin closed.sequence cause
      ((s.withBil b).withMtr { s.mtr with residues := zeroResidues })
  | none => s

end Sys2Proof.Machine
end

