-- ==== Sys2Proof/Machine/Meter.lean ====
section
/-! DEFINITION. MTR's shared operations: the range step of R118, the energy of a sample (R128), the close
of the interval in progress (R120, R130), and the gate (R121, R122) and run edges (R133). -/
namespace Sys2Proof.Machine
open Sys2Proof

/-- A number brought into a range. -/
def clampInt (lo hi x : Int) : Int := if x < lo then lo else if hi < x then hi else x

/-- R118: each mean is brought into its channel's range. -/
def clampPowers (p : Powers) : Powers :=
  { inlet := clampInt 0 500000 p.inlet
    heater := clampInt 0 20000 p.heater
    pack := clampInt (-500000) 500000 p.pack }

/-- R128: whole mWh and the new residue of a channel with power `p` W over `d` µs. -/
def energyOf (residue : Nat) (p : Int) (d : Nat) : Int × Nat :=
  let x : Int := residue + p * d
  let unit : Int := Config.wattMicrosPerMwh
  (x / unit, (x % unit).toNat)

/-- The pack-heat run is active (R67). -/
def State.runActive (s : State) : Bool :=
  match s.htr.run with
  | some r => r.ended.isNone
  | none => false

/-- R130: where a sample formed now goes. -/
def destination (s : State) : Destination :=
  match s.mtr.gate with
  | .opened => .session
  | .closed => if s.runActive then .run else .none

/-- R130 to R132, R151: a sample's energies go to the open session. -/
def accumulateSession (kind : SampleKind) (p : Powers) (d : Nat) (s : State) : State :=
  let r := s.mtr.residues
  let (inlet, rInlet) := energyOf r.inlet p.inlet d
  let (heater, rHeater) := energyOf r.heater p.heater d
  let (pack, rPack) := energyOf r.pack p.pack d
  billSample kind inlet.toNat heater.toNat pack
    (s.withMtr { s.mtr with residues := { inlet := rInlet, heater := rHeater, pack := rPack } })

/-- R130, R133: a sample's HEATER and PACK energies go to the run, PACK with its sign reversed. -/
def accumulateRun (p : Powers) (d : Nat) (s : State) : State :=
  let r := s.mtr.residues
  let (heater, rHeater) := energyOf r.heater p.heater d
  let (pack, rPack) := energyOf r.pack (-p.pack) d
  let s := s.withMtr { s.mtr with residues := { r with heater := rHeater, pack := rPack } }
  s.withHtr { s.htr with
    run := s.htr.run.map fun run =>
      { run with
        packEnergy := addI32 run.packEnergy pack
        heaterEnergy := addU32 run.heaterEnergy heater.toNat } }

/-- R130: hand a sample's energies to its destination. -/
def accumulate (kind : SampleKind) (p : Powers) (d : Nat) (s : State) : State :=
  match destination s with
  | .session => accumulateSession kind p d s
  | .run => accumulateRun p d s
  | .none => s

/-- R120: the sample a close at the present instant forms. -/
def sampleNow (kind : SampleKind) (s : State) : Sample :=
  { endUs := s.time
    duration := s.time - s.mtr.intervalStart
    cycles := match s.mtr.timing with
      | .timed => none
      | .mains c _ => some c
    kind := kind
    powers := clampPowers s.mfe.means
    destination := destination s }

/-- R120: the interval in progress closes at the present instant; a close at its start forms no
sample. The next interval starts at the same instant; the caller sets its timing. -/
def closeInterval (kind : SampleKind) (s : State) : State :=
  let formed :=
    if s.time - s.mtr.intervalStart = 0 then s
    else
      let q := sampleNow kind s
      let s := accumulate kind q.powers q.duration s
      s.withMtr { s.mtr with lastSample := some q }
  formed.withMtr { formed.mtr with intervalStart := s.time }

/-- R121: SEQ opens the gate. A gate already OPEN is not opened again. -/
def openGate (s : State) : State :=
  match s.mtr.gate with
  | .opened => s
  | .closed =>
    let s := closeInterval .boundary s
    s.withMtr { s.mtr with residues := zeroResidues, gate := .opened, timing := .timed }

/-- R122: SEQ closes the gate. -/
def closeGate (s : State) : State :=
  match s.mtr.gate with
  | .closed => s
  | .opened =>
    let s := closeInterval .gateClose s
    s.withMtr { s.mtr with gate := .closed, timing := .timed }

/-- R133: the cut at a run's start or end; the HEATER and PACK residues are set to 0. -/
def cutForRun (s : State) : State :=
  let s := closeInterval .boundary s
  s.withMtr { s.mtr with
    timing := .timed, residues := { s.mtr.residues with heater := 0, pack := 0 } }

end Sys2Proof.Machine
end

