-- ==== Sys2Proof/Machine/Allocator.lean ====
section
/-! DEFINITION. ALC's shared operations: the allocation in its five steps (R41 to R47), the quiet window
(R49, R50), and the writes of the offer record (R30 to R34). -/
namespace Sys2Proof.Machine
open Sys2Proof

/-! ## The five steps -/

/-- R38: the current limit of the highest point at or below the temperature; 0 below the first. -/
def lookupDerate (table : List (Int × Nat)) (t : Int) : Nat :=
  match (table.filter fun p => decide (p.1 ≤ t)).getLast? with
  | some p => p.2
  | none => 0

/-- R38: I_acc from the table in force and the present T_min. -/
def iAccNow (s : State) : Nat := lookupDerate s.alc.derate s.tMinUsed

/-- R42: V_line, the lowest phase voltage for three phases, phase 1 for one. -/
def lineVoltage (s : State) : Nat :=
  let v := s.mfe.lineVoltage
  if s.seq.acOnly.phaseCount = 3 then min v[0] (min v[1] v[2]) else v[0]

/-- A power brought down to a limit. -/
def Limit.bound (l : Limit) (x : Nat) : Nat :=
  match l with
  | .upTo n => min n x
  | .unlimited => x

/-- R42: the power the offer allows through the profile, before max_power and f. -/
def offeredPower (s : State) : Profile → Nat
  | .ac =>
      s.seq.acOnly.phaseCount * lineVoltage s * s.alc.offer.iOff / 100
        * s.seq.acOnly.obcEfficiency / 1000
  | .dc => s.alc.offer.pOff.bound (s.alc.offer.iOff * s.mfe.packVoltage / 100)

/-- R42: the first step, P_avail in W. -/
def availablePower (s : State) (p : Profile) : Nat :=
  match s.alc.offer.state with
  | .live => min (offeredPower s p) (s.seq.common p).maxPower * s.alc.factor / 1000
  | .empty | .stale => 0

/-- R43: the second step, P_acc in W. -/
def acceptedPower (iAcc vPack : Nat) : Nat := iAcc * vPack / 100

/-- R44: the grant against the standing request's level; NONE without a request. -/
def grantFor (requested : Option Level) (x : Nat) : Option Level :=
  match requested with
  | some l => grant l x
  | none => none

/-- R45: the fourth step: the heater grant target and P_chg. -/
def split (policy : Policy) (heaterCounts : Bool) (requested : Option Level) (pAvail pAcc : Nat) :
    Option Level × Nat :=
  if heaterCounts then
    match policy with
    | .heatFirst =>
        let g := grantFor requested pAvail
        (g, min (pAvail - levelPower g) pAcc)
    | .chargeFirst =>
        let pChg := min pAvail pAcc
        (grantFor requested (pAvail - pChg), pChg)
  else (none, min pAvail pAcc)

/-- A figure brought down to a limit that may not apply. -/
def boundBy (limit : Option Nat) (x : Nat) : Nat :=
  match limit with
  | some l => min l x
  | none => x

/-- R46: the station's voltage limit stands in the way of any current. -/
def voltageBlocked (s : State) : Profile → Bool
  | .ac => false
  | .dc => match s.alc.offer.vOff with
    | .upTo v => decide (v ≤ s.mfe.packVoltage)
    | .unlimited => false

/-- R46: the fifth step, I_tgt in dA. The taper ceiling exists only in TAPER (R48). -/
def targetSetpoint (s : State) (p : Profile) (iAcc pChg : Nat) : Nat :=
  let v := s.mfe.packVoltage
  if v < Config.minVoltage then 0
  else if voltageBlocked s p then 0
  else
    let i := min (pChg * 100 / v) (min iAcc (s.seq.common p).maxCurrent)
    let i := boundBy s.alc.ceiling i
    match p with
    | .ac => i
    | .dc => min i s.alc.offer.iOff

/-- R45: the heater counts when HTR is in ON with source INLET. -/
def heaterCounts (s : State) : Bool :=
  match s.htr.state, s.htr.request with
  | .on, some r => r.source == .inlet
  | _, _ => false

/-- The figures of one recomputation. -/
structure Targets where
  pAvail : Nat
  iAcc   : Nat
  pChg   : Nat
  grant  : Option Level
  set    : Nat
deriving DecidableEq, Repr

/-- R42 to R46 on the latest value of every input. -/
def computeTargets (s : State) (c : SessionContext) : Targets :=
  let pAvail := availablePower s c.profile
  let iAcc := iAccNow s
  let pAcc := acceptedPower iAcc s.mfe.packVoltage
  let (g, pChg) := split c.policy (heaterCounts s) (s.htr.request.map (·.level)) pAvail pAcc
  { pAvail := pAvail, iAcc := iAcc, pChg := pChg, grant := g
    set := targetSetpoint s c.profile iAcc pChg }

/-! ## Applying -/

/-- R47, R49: the setpoint applied from a target: a rise waits for the quiet window. -/
def applySet (quiet : Bool) (applied target : Nat) : Nat :=
  if target ≤ applied || !quiet then target else applied

/-- R47, R49: the grant applied from a target. -/
def applyGrant (quiet : Bool) (applied target : Option Level) : Option Level :=
  if levelCode target ≤ levelCode applied || !quiet then target else applied

/-- R63: in ON with source INLET the applied level is ALC's applied grant. -/
def followGrant (s : State) : State :=
  if heaterCounts s then s.withHtr { s.htr with level := s.alc.appliedGrant } else s

/-- R41: no session is open, so no allocation is computed: P_avail reads 0, the setpoints stand at 0
and the grants at NONE, and I_acc is evaluated. -/
def Alc.standIdle (a : Alc) (iAcc : Nat) : Alc :=
  { a with
    pAvail := 0, iAcc := iAcc, targetSet := 0, appliedSet := 0, targetGrant := none
    appliedGrant := none }

/-- R47: the figures of a recomputation, applied as the sequencer state and the window allow. -/
def Alc.take (a : Alc) (st : SeqState) (t : Targets) : Alc :=
  { a with
    pAvail := t.pAvail, iAcc := t.iAcc, targetSet := t.set, targetGrant := t.grant
    appliedSet := if st.delivers then applySet a.quiet a.appliedSet t.set else 0
    appliedGrant := if st.delivers then applyGrant a.quiet a.appliedGrant t.grant else none }

/-- R41: ALC recomputes the allocation. -/
def allocate (s : State) : State :=
  match s.seq.ctx with
  | none => s.withAlc (s.alc.standIdle (iAccNow s))
  | some c => followGrant (s.withAlc (s.alc.take s.seq.state (computeTargets s c)))

/-! ## The quiet window -/

/-- R63: the level the PACK source gives against the requested level. -/
def packGrant (s : State) (r : HeatRequest) : Option Level :=
  grant r.level (min s.htr.settings.packHeatMax 2400)

/-- R67: the run record's highest level after a level is applied. -/
def RunRecord.noteLevel (r : RunRecord) (l : Option Level) : RunRecord :=
  match l with
  | some l => if r.ended.isNone && decide (r.highest.code < l.code) then { r with highest := l } else r
  | none => r

/-- Set the applied level of the PACK source. -/
def setPackLevel (l : Option Level) (s : State) : State :=
  s.withHtr { s.htr with level := l, run := s.htr.run.map fun r => r.noteLevel l }

/-- R63: in ON with source PACK, the level follows the grant; a rise waits while a PACK measurement is
in flight, which is while the quiet window is open. DESIGN CHOICE (log entry 38): once the switch has opened
nothing is applied, so a rise held by a PACK measurement that the opening itself discards is dropped, and is
not noted as the run's highest level. -/
def followPack (s : State) : State :=
  match s.htr.state, s.htr.request with
  | .on, some r =>
    if r.source = .pack ∧ s.htr.switch then
      setPackLevel (applyGrant s.alc.quiet s.htr.level (packGrant s r)) s
    else s
  | _, _ => s

/-- R49: a PACK measurement starts. -/
def openQuiet (s : State) : State := s.withAlc { s.alc with quiet := true }

/-- R50: the window closes, and the held targets are applied if SEQ still delivers. -/
def closeQuiet (s : State) : State :=
  let a := { s.alc with quiet := false }
  let a := if s.seq.state.delivers then
      { a with appliedSet := a.targetSet, appliedGrant := a.targetGrant } else a
  followPack (followGrant (s.withAlc a))

/-! ## The offer record -/

/-- R30: empty the record. -/
def emptyOfferRecord (s : State) : State := s.withAlc { s.alc with offer := emptyOffer }

/-- R31: a LINE write. -/
def lineWrite (i : Nat) (s : State) : State :=
  s.withAlc { s.alc with
    offer := { state := .live, source := .line, iOff := min i Config.maxCurrent, vOff := .unlimited
               pOff := .unlimited, hold := none } }

end Sys2Proof.Machine
end

