-- ==== Sys2Proof/Machine/Insulation.lean ====
section
/-! DEFINITION. ISM's shared operations: discards and withdrawals (R81 to R83), the start of a measurement
(R77), the scan (R86 to R90), the arbiter (R85), the estimate (R98 to R104), the store of an outcome in
its section record (R93, R94) and the section levels (R106 to R110). -/
namespace Sys2Proof.Machine
open Sys2Proof

/-! ## Discards -/

/-- Change a section record. -/
def updateRecord (sec : Section) (f : SectionRecord → SectionRecord) (s : State) : State :=
  s.withIsm (s.ism.withRecord sec (f (s.ism.record sec)))

/-- R82, steps 1 to 4: the measurement in flight, if there is one, is discarded. -/
def discard (s : State) : State :=
  match s.ism.flight with
  | none => s
  | some m =>
    let s := s.withIsm { s.ism with flight := none }
    let s := updateRecord m.sec (fun r => { r with discarded := bump16 r.discarded }) s
    match m.sec with
    | .pack => closeQuiet s
    | .heater | .inlet => s

/-- R83, left column: the slot's request after a discard by a change of R81. SEQ is told by the one
arrival that can discard its measurement (a DC inlet voltage reading). HTR places its request again
while it is in CHECK. -/
def settleTopology (slot : Slot) (s : State) : State :=
  match slot with
  | .sequencer => s.withIsm { s.ism with slotSeq := false }
  | .heater => s.withIsm { s.ism with slotHeater := s.htr.state == .check }
  | .host => s
  | .scan => s

/-- R81: a change that discards the measurement in flight when it measures one of these sections. -/
def topologyChange (hit : Section → Bool) (s : State) : State :=
  match s.ism.flight with
  | none => s
  | some m => if hit m.sec then settleTopology m.slot (discard s) else s

/-- R81: DCC_CMD closes or opens. -/
def dccTopology (s : State) : State :=
  topologyChange (fun sec => match sec with
    | .pack | .inlet => true
    | .heater => false) s

/-- R81: HTR_SW closes or opens. -/
def switchTopology (s : State) : State :=
  topologyChange (fun sec => match sec with
    | .pack | .heater => true
    | .inlet => false) s

/-- R81: PACK_LIVE is asserted or deasserted. -/
def liveTopology (s : State) : State :=
  topologyChange (fun sec => match sec with
    | .pack => true
    | .heater | .inlet => false) s

/-- R81: a DC inlet voltage reading below 1,000 dV. -/
def inletTopology (s : State) : State :=
  topologyChange (fun sec => match sec with
    | .inlet => true
    | .pack | .heater => false) s

/-- The measurement in flight serves this slot. -/
def Ism.serves (i : Ism) (slot : Slot) : Bool :=
  match i.flight with
  | some m => m.slot == slot
  | none => false

/-- R16, R82: SEQ leaves ISOCHECK. -/
def withdrawSeq (s : State) : State :=
  let s := if s.ism.serves .sequencer then discard s else s
  s.withIsm { s.ism with slotSeq := false }

/-- R62, R82: HTR leaves CHECK other than by a judged result, or its request ends. -/
def withdrawHeater (s : State) : State :=
  let s := if s.ism.serves .heater then discard s else s
  s.withIsm { s.ism with slotHeater := false }

/-! ## Starting a measurement -/

/-- R77: the settling time of each phase. -/
def settleTime (s : State) : Section → Nat
  | .pack =>
      s.ism.settings.settlePack + (if s.seq.dccCmd then s.ism.settings.settlePackExtra else 0)
  | .heater => s.ism.settings.settleHeater
  | .inlet => s.ism.settings.settleInlet

/-- R77: the arbiter grants the network to a slot. -/
def startMeasurement (slot : Slot) (sec : Section) (s : State) : State :=
  let t := settleTime s sec
  let s := s.withIsm { s.ism with
    flight := some
      { phase := .settleA, slot := slot, sec := sec, settle := t, phaseEnd := s.nowMs + t
        sumP := 0, sumN := 0, count := 0, meansA := none, meansB := none } }
  match sec with
  | .pack => openQuiet s
  | .heater | .inlet => s

/-! ## Scans -/

/-- R87: a pass starts; the arbiter runs at the end of the arrival. -/
def Scan.startPass (c : Scan) : Scan :=
  { c with busy := true, step := some c.first, measured := false }

/-- R87, R90: the present step is done; the pass moves on, ends, or in CONTINUOUS gives way to the
next pass when one of its steps was measured. -/
def Scan.moveOn (c : Scan) : Scan :=
  match c.step with
  | none => c
  | some sec =>
    if sec.num < c.last.num then { c with step := sec.next }
    else
      let ended := { c with busy := false, step := none }
      if c.mode = .continuous ∧ c.measured then ended.startPass else ended

def withScan (f : Scan → Scan) (s : State) : State :=
  s.withIsm { s.ism with scan := f s.ism.scan }

/-- R86: the present step is SKIPPED. -/
def skipStep (sec : Section) (s : State) : State :=
  withScan Scan.moveOn (updateRecord sec (fun r => { r with skipped := bump16 r.skipped }) s)

/-- R85, R86: the arbiter at the SCAN slot. A step is measured or skipped, and so are the steps after
it; three sections and one further CONTINUOUS pass bound the number of skips. -/
def serveScan : Nat → State → State
  | 0, s => s
  | n + 1, s =>
    match s.ism.scan.step with
    | none => s
    | some sec =>
      if measurable s sec then startMeasurement .scan sec s else serveScan n (skipStep sec s)

/-- R72, R90: the arrival that leads from `before` to `s` has made a section from first_section to
last_section measurable. -/
def becameMeasurable (before s : State) : Bool :=
  [Section.pack, .heater, .inlet].any fun sec =>
    decide (s.ism.scan.first.num ≤ sec.num ∧ sec.num ≤ s.ism.scan.last.num)
      && measurable s sec && !measurable before sec

/-- R90: an idle CONTINUOUS scan starts its next pass at an arrival that makes a section of it
measurable (log entry 20). -/
def wakeScan (before s : State) : State :=
  if s.ism.scan.mode = .continuous ∧ s.ism.scan.busy = false ∧ becameMeasurable before s = true then
    withScan Scan.startPass s
  else s

/-- R85: which of the three requester slots is granted the network, if any. -/
def grantedSlot (s : State) : Option (Slot × Section) :=
  if s.ism.slotSeq && measurable s .inlet then some (.sequencer, .inlet)
  else if s.ism.slotHeater && measurable s .heater then some (.heater, .heater)
  else match s.ism.slotHost with
    | some sec => if measurable s sec then some (.host, sec) else none
    | none => none

/-- R85: the arbiter. It runs at the end of an arrival that began in `before`, when all that the
arrival changes has changed (log entry 8). -/
def arbiter (before s : State) : State :=
  let s := wakeScan before s
  match s.ism.flight with
  | some _ => s
  | none =>
    match grantedSlot s with
    | some (slot, sec) => startMeasurement slot sec s
    | none => serveScan 8 s

/-- The end of an arrival that began in `before` and can touch ISM: the arbiter, then the outbound
side. -/
def finish (before s : State) : State := pump (arbiter before s)

/-! ## The estimate (R98 to R104) -/

/-- R102, R103: one resistance in kΩ, and whether it is marked over the ceiling. -/
def leakage (r0 det denominator : Nat) : Nat × Bool :=
  if denominator = 0 then (Config.resistanceCeiling, true)
  else
    let r := r0 * det / denominator
    if Config.resistanceCeiling < r then (Config.resistanceCeiling, true) else (r, false)

/-- R104: the figure in Ω/V. -/
def ohmsPerVolt (rIso vRef : Nat) : Nat := rIso * 10000 / vRef

/-- R98 to R104: the outcome of four means. -/
def estimate (set : IsoSettings) (vpA vnA vpB vnB : Nat) : IsoOutcome :=
  let vbA := vpA + vnA
  let vbB := vpB + vnB
  if vbA < 500 ∨ vbB < 500 then .dead vbA vbB
  else if vbA > vbB + set.tolerance ∨ vbB > vbA + set.tolerance then .tolerance vbA vbB
  else if vnA * vpB ≤ vpA * vnB then .polarity vbA vbB
  else
    let det := vnA * vpB - vpA * vnB
    let (rp, overP) := leakage set.r0 det (vnB * vbA)
    let (rn, overN) := leakage set.r0 det (vpA * vbB)
    let rIso := min rp rn
    .result vbA vbB rp rn rIso (ohmsPerVolt rIso set.vRef) (overP && overN)

/-! ## Section records and levels -/

/-- R93, R94: step 3 of a completion on the section record. -/
def SectionRecord.store (r : SectionRecord) (o : IsoOutcome) (vRef now : Nat) (slot : Slot) :
    SectionRecord :=
  match o with
  | .result _ _ rp rn rIso figure isOver =>
      { r with
        result := some { rp := rp, rn := rn, rIso := rIso, figure := figure, isOver := isOver
                         vRef := vRef, instant := now, slot := slot }
        fresh := true
        overwrite := r.overwrite || r.fresh
        completed := bump16 r.completed }
  | .dead _ _ => { r with dead := bump16 r.dead }
  | .tolerance _ _ => { r with inconsistent := bump16 r.inconsistent }
  | .polarity _ _ => { r with inconsistent := bump16 r.inconsistent }

/-- Section 5.2: the bands of a figure. -/
inductive Band where | low | marginal | good
deriving DecidableEq, Repr

def bandOfFigure (warn fault figure : Nat) : Band :=
  if figure < fault then .low else if figure < warn then .marginal else .good

/-- A run of R107 stops at 255. -/
def runUp (n : Nat) : Nat := bump Config.max8 n

/-- R108: the runs after a figure. -/
def LevelRecord.count (l : LevelRecord) : Band → LevelRecord
  | .low => { l with lowRun := runUp l.lowRun, faultRun := runUp l.faultRun, goodRun := 0 }
  | .marginal => { l with lowRun := runUp l.lowRun, faultRun := 0, goodRun := 0 }
  | .good => { l with lowRun := 0, faultRun := 0, goodRun := runUp l.goodRun }

/-- R109: the level after an update of the runs. -/
def LevelRecord.nextLevel (l : LevelRecord) : IsoLevel :=
  match l.level with
  | .normal => if 2 ≤ l.faultRun then .fault else if 2 ≤ l.lowRun then .warning else .normal
  | .warning => if 2 ≤ l.faultRun then .fault else if 3 ≤ l.goodRun then .normal else .warning
  | .fault => .fault

/-- R108 to R110: a figure judged; the latch is set at entry to FAULT. -/
def LevelRecord.judge (l : LevelRecord) (warn fault figure now : Nat) (slot : Slot) : LevelRecord :=
  let l := l.count (bandOfFigure warn fault figure)
  let next := l.nextLevel
  let entered := next = .fault ∧ l.level ≠ .fault
  { l with
    level := next
    latch := if entered then some { figure := figure, instant := now, slot := slot } else l.latch }

/-- R107: the level of a section; INLET carries none. -/
def Ism.level? (i : Ism) (sec : Section) : Option IsoLevel := (i.levelRecord? sec).map (·.level)

end Sys2Proof.Machine
end

