-- ==== Sys2Proof/Machine/Heater.lean ====
section
/-! DEFINITION. HTR's shared operations: the sources (R60), the demand and the evaluation of the standing
request (R61 to R64), the request's end (R59), and the pack-heat run (R67, R68). -/
namespace Sys2Proof.Machine
open Sys2Proof

/-! ## Sources (R60) -/

/-- R60: what must go on holding for the PACK source to be held. -/
def packHolds (s : State) (r : HeatRequest) : Bool :=
  r.policy == .inletOrPack && s.seq.state == .idle && s.inputs.packLive
    && decide (s.htr.settings.packFloor ≤ s.mfe.packVoltage)

/-- R60: the PACK source may be taken. -/
def packTakeable (s : State) (r : HeatRequest) : Bool :=
  packHolds s r && s.seq.pendingStart.isNone && restElapsed s .packHeat

/-- R60, R61: the source the request can use: available, or already held. -/
def usableSource (s : State) (r : HeatRequest) : HeatSource :=
  if s.seq.state.delivers then .inlet
  else if r.source = .pack then (if packHolds s r then .pack else .none)
  else if packTakeable s r then .pack else .none

/-- R61: the pack demands heat. -/
def demandsHeat (s : State) (r : HeatRequest) : Bool :=
  decide (s.tMaxUsed < s.htr.settings.maxPackTemp)
    && (decide (s.tMinUsed < r.target - s.htr.settings.hysteresis)
      || (!r.hasBeenOn && decide (s.tMinUsed < r.target)))

/-! ## The switch and the run -/

/-- R52, R59, R68: HTR_SW opens if it was closed, and the applied level becomes NONE. The level falls with the
switch, before ISM discards a PACK measurement at the opening (DESIGN CHOICE, log entry 38). -/
def openSwitch (s : State) : State :=
  if s.htr.switch then switchTopology (s.withHtr { s.htr with switch := false, level := none }) else s

/-- R63: HTR_SW closes. -/
def closeSwitch (s : State) : State :=
  if s.htr.switch then s else switchTopology (s.withHtr { s.htr with switch := true })

/-- R67, R133: a pack-heat run starts, at its first level. -/
def startRun (level : Level) (s : State) : State :=
  let s := cutForRun s
  s.withHtr { s.htr with
    run := some { start := s.nowMs, packEnergy := 0, heaterEnergy := 0, highest := level
                  ended := none } }

/-- R68, steps 2 and 3, after the cut of R133: an active run ends and the rest record is written. -/
def endRun (cause : HeatEnd) (s : State) : State :=
  if s.runActive then
    let s := cutForRun s
    let s := s.withHtr { s.htr with
      run := s.htr.run.map fun r => { r with ended := some (s.nowMs, cause) } }
    s.withSeq { s.seq with rest := { s.seq.rest with kind := .packHeat, endInstant := s.nowMs } }
  else s

/-- The run record an end carries in HEAT_STATE (R69), read before the run ends. -/
def endedRun (before after : State) : Option RunRecord := if before.runActive then after.htr.run else none

/-! ## Changes of heater state (R69) -/

/-- HTR enters a state of a standing request: the source is recorded, the level falls to NONE outside
ON, the allocation follows (R41), and HEAT_STATE is raised (log entry 11). -/
def enterHeat (st : HeatState) (source : HeatSource) (run : Option RunRecord) (s : State) : State :=
  let s := s.withHtr { s.htr with
    state := st
    request := s.htr.request.map fun r => { r with source := source }
    level := if st = .on then s.htr.level else none }
  let s := allocate s
  raise (.heatState st source s.htr.level none run) s

/-- What the present heater state holds beside its source is given up: the switch in ON, the HEATER
request in CHECK. -/
def giveUp (s : State) : State :=
  match s.htr.state with
  | .on => openSwitch s
  | .check => withdrawHeater s
  | .idle | .pending | .satisfied => s

/-- R59: a standing request ends. -/
def endRequest (cause : HeatEnd) (s : State) : State :=
  match s.htr.request with
  | none => s
  | some _ =>
    let t := endRun cause (giveUp s)
    let run := endedRun s t
    let t := allocate (t.withHtr { t.htr with request := none, state := .idle, level := none })
    raise (.heatState .idle .none none (some cause) run) t

/-- R61, R64, R68: the source is lost or the element lock is set. -/
def toPending (cause : HeatEnd) (s : State) : State :=
  let t := endRun cause (giveUp s)
  enterHeat .pending .none (endedRun s t) t

/-- R9, R68: an accepted start supersedes an active run. -/
def supersede (s : State) : State := if s.runActive then toPending .superseded s else s

/-- R63: entry to ON with the source held. -/
def enterOn (s : State) : State :=
  match s.htr.request with
  | none => s
  | some r =>
    let s := closeSwitch s
    let level := packGrant s r
    let s := match r.source with
      | .pack => if s.runActive then s else startRun (level.getD .l1) s
      | .inlet | .none => s
    let s := s.withHtr { s.htr with
      state := .on, request := some { r with hasBeenOn := true } }
    let s := match r.source with
      | .pack => setPackLevel level s
      | .inlet | .none => s
    enterHeat .on r.source none s

/-- R62: the HEATER record's result spares a new measurement. -/
def freshCheck (s : State) : Option Nat :=
  match s.ism.heater.result with
  | some q =>
    if s.htr.settings.checkAge ≠ 0 ∧ s.nowMs - q.instant ≤ s.htr.settings.checkAge * 1000 then
      some q.figure
    else none
  | none => none

/-- R62, R106: HTR in CHECK judges a HEATER figure against the fault threshold in force. -/
def judgeCheck (figure : Nat) (s : State) : State :=
  if s.ism.fault ≤ figure then enterOn s else endRequest .isoCheck s

/-- R61, R62: entry to CHECK. -/
def enterCheck (source : HeatSource) (s : State) : State :=
  let s := enterHeat .check source none s
  match freshCheck s with
  | some figure => judgeCheck figure s
  | none => s.withIsm { s.ism with slotHeater := true }

/-- R61, R64: where a standing request with a usable source belongs. -/
def place (source : HeatSource) (r : HeatRequest) (s : State) : State :=
  match s.htr.state with
  | .idle | .pending =>
      if demandsHeat s r then enterCheck source s else enterHeat .satisfied source none s
  | .satisfied => if demandsHeat s r then enterCheck source s else s
  | .check => if demandsHeat s r then s else enterHeat .satisfied source none (withdrawHeater s)
  | .on =>
      if r.target ≤ s.tMinUsed ∨ s.htr.settings.maxPackTemp ≤ s.tMaxUsed then
        enterHeat .satisfied source none (openSwitch s)
      else followPack s

/-- R61: HTR evaluates the standing request, if there is one. -/
def htrEvaluate (s : State) : State :=
  match s.htr.request with
  | none => s
  | some r =>
    let source := usableSource s r
    if s.htr.lock ∨ source = .none ∨ (r.source ≠ .none ∧ r.source ≠ source) then
      if s.htr.state = .pending then s
      else toPending (if s.htr.lock then .element else .sourceLost) s
    else place source r s

end Sys2Proof.Machine
end

