-- ==== Sys2Proof/Machine/Sequencer.lean ====
section
/-! DEFINITION. SEQ's shared operations: changes of state (R1), the opening of a session (R11), hold
filtering and the ends of CONNECT and PRECHARGE (R12, R13), the entries of the open phases (R15 to R20),
RELEASE (R22, R23), the contactor fault latch (R26), and the cancelling of a pending start (R10). -/
namespace Sys2Proof.Machine
open Sys2Proof

/-- Change the session context. -/
def updateCtx (f : SessionContext → SessionContext) (s : State) : State :=
  s.withSeq { s.seq with ctx := s.seq.ctx.map f }

/-- R1, R2: SEQ enters a state: the phase entry instant is recorded, raw change is absent (R2:
unchanged since entry), and SESSION_PHASE is raised, with the end cause when the state is RELEASE.

DESIGN CHOICE (log entry 30): ready raw, ready filtered and isocheck failures keep their values through
the phases for which R2 gives them no meaning; CONNECT, PRECHARGE and ISOCHECK set their own. -/
def enterState (st : SeqState) (cause : Option EndCause) (s : State) : State :=
  let s := s.withSeq { s.seq with state := st }
  raise (.sessionPhase st cause)
    (updateCtx (fun c => { c with phaseEntry := s.nowMs, rawChange := none }) s)

/-- What every change of sequencer state brings: an allocation (R41) and HTR's evaluation (R60). -/
def afterState (s : State) : State := htrEvaluate (allocate s)

/-! ## Waiting (R10) -/

/-- R10, R148: the pending start is cancelled. -/
def cancelStart (s : State) : State :=
  let s := s.withSeq { s.seq with pendingStart := none }
  afterState (enterState .idle none (s.withBil s.bil.activatePending))

/-! ## The contactor fault latch (R26) -/

def setFaultLatch (case_ : FaultCase) (held : Bool) (s : State) : State :=
  let s := s.withSeq { s.seq with faultLatch := true, lockHeld := s.seq.lockHeld || held }
  raise (.contactorFault case_ held) s

/-! ## Release (R22, R23) -/

/-- R22, step 5: the record closes, the rest record is written, and SEQ enters IDLE. -/
def finishRelease (s : State) : State :=
  match s.seq.ctx with
  | none => s
  | some c =>
    let s := closeRecord (c.endCause.getD .hostStop) s
    let s := s.withSeq { s.seq with
      rest := { kind := .charge, profile := c.profile, endInstant := s.nowMs }
      ctx := none, check := .none }
    afterState (enterState .idle none s)

/-- R22, step 4: LOCK_CMD disengages unless the latch holds it; then step 5. -/
def unlock (s : State) : State :=
  finishRelease (s.withSeq { s.seq with lockCmd := s.seq.lockHeld })

/-- R22, steps 2 to 5: SEQ opens the power path and closes the gate. The opening check passes at once
when DCC_FB reads open. -/
def openPower (s : State) : State :=
  match s.ctxProfile? with
  | some .dc =>
    let s := closeGate (dccTopology (s.withSeq { s.seq with dccCmd := false }))
    if s.inputs.dccFb then
      s.withSeq { s.seq with check := .opening (s.nowMs + s.seq.settings.contactorCheck) }
    else unlock s
  | some .ac => unlock (closeGate (s.withSeq { s.seq with obcEn := false }))
  | none => s

/-- R22, R23: entry to RELEASE. The taper ceiling is removed (R48), a running closing check is abandoned
(R18), and with energised no SEQ goes straight to step 4. -/
def enterRelease (cause : EndCause) (s : State) : State :=
  let energised := match s.seq.ctx with
    | some c => c.energised
    | none => false
  let inIsocheck := s.seq.state == .isocheck
  let s := updateCtx (fun c => { c with endCause := some cause }) s
  let s := (s.withSeq { s.seq with check := .none }).withAlc { s.alc with ceiling := none }
  let s := enterState .release (some cause) s
  let s := afterState (if inIsocheck then withdrawSeq s else s)
  if energised then s else unlock s

/-- R14: an arrival that ends every open phase. -/
def endOpenPhase (cause : EndCause) (s : State) : State :=
  if s.seq.state.isOpenPhase then enterRelease cause s else s

/-- R14: an arrival that ends ENERGY and TAPER. -/
def endDelivery (cause : EndCause) (s : State) : State :=
  if s.seq.state.delivers then enterRelease cause s else s

/-- R10, R14, R114: the PACK section level becomes FAULT. -/
def seqPackFault (s : State) : State :=
  match s.seq.state with
  | .waitingRest => cancelStart s
  | .idle | .release => s
  | .connect | .isocheck | .precharge | .energy | .taper => enterRelease .isoFault s

/-- R22: RELEASE stands at step 1. -/
def awaitingCurrent (s : State) : Bool :=
  s.seq.state == .release
    && (match s.seq.ctx with
        | some c => c.energised
        | none => false)
    && (match s.seq.check with
        | .opening _ => false
        | .none | .closing _ | .passed => true)

/-! ## Phase entries -/

/-- R18: the end of PRECHARGE. Entry to ENERGY with the offer STALE is the offer becoming STALE (R14);
the release is taken before HTR sees the INLET source (log entry 10). -/
def enterEnergy (s : State) : State :=
  let s := updateCtx (fun c => { c with energised := true }) s
  let s := match s.ctxProfile? with
    | some .dc =>
      let s := dccTopology (s.withSeq { s.seq with dccCmd := true })
      s.withSeq { s.seq with
        check := if s.inputs.dccFb then .passed
                 else .closing (s.nowMs + s.seq.settings.contactorCheck) }
    | some .ac => s.withSeq { s.seq with obcEn := true }
    | none => s
  let s := enterState .energy none (openGate s)
  if s.alc.offer.state = .stale then enterRelease .offerStale s else afterState s

/-- R15, R17: the observed ready condition of the present phase. DESIGN CHOICE (log entry 35): in the DC
match too a voltage not read since a cold start counts as 0, which R41, R60 and R71 say for ALC, HTR and ISM
alone. -/
def readyCondition (s : State) (c : SessionContext) : Bool :=
  match s.seq.state with
  | .connect => s.inputs.lockFb
  | .precharge =>
      s.inputs.packLive
        && (match c.profile with
            | .ac => s.inputs.obcRdy
            | .dc => decide (s.mfe.dcInletVoltage ≤ s.mfe.packVoltage + s.seq.dcOnly.matchWindow
                ∧ s.mfe.packVoltage ≤ s.mfe.dcInletVoltage + s.seq.dcOnly.matchWindow))
  | .idle | .waitingRest | .isocheck | .energy | .taper | .release => false

/-- R13: one observation of the ready condition. -/
def SessionContext.observe (c : SessionContext) (filter : HoldFilter) (now : Nat) (v : Bool) :
    SessionContext :=
  { c with
    readyRaw := v
    rawChange := if v = c.readyRaw then c.rawChange else some now
    readyFiltered := match filter with
      | .direct => v
      | .confirmed => c.readyFiltered }

/-- CONNECT or PRECHARGE: the phases with a ready condition (R12). -/
def SeqState.waitsReady : SeqState → Bool
  | .connect | .precharge => true
  | .idle | .waitingRest | .isocheck | .energy | .taper | .release => false

/-- R13: the ready condition is observed, in a phase that has one. -/
def observe (s : State) : State :=
  if s.seq.state.waitsReady then
    updateCtx (fun c => c.observe (s.seq.common c.profile).holdFilter s.nowMs (readyCondition s c)) s
  else s

/-- R12: entry to CONNECT or PRECHARGE: ready filtered is false, and the condition is observed. -/
def enterWaiting (st : SeqState) (s : State) : State :=
  let s := enterState st none s
  let s := updateCtx
    (fun c => { c with readyRaw := false, readyFiltered := false }) s
  afterState (observe s)

/-- R16: entry to ISOCHECK. -/
def enterIsocheck (s : State) : State :=
  let s := enterState .isocheck none s
  let s := updateCtx (fun c => { c with isocheckFailures := 0 }) s
  afterState (s.withIsm { s.ism with slotSeq := true })

/-- R11: the session opens. -/
def openSession (p : PendingStart) (s : State) : State :=
  let s := emptyOfferRecord (openRecord p s)
  let s := s.withSeq { s.seq with
    ctx := some
      { sequence := s.bil.counter, account := p.account, profile := p.profile, policy := p.policy
        phaseEntry := s.nowMs, readyRaw := false, readyFiltered := false, rawChange := none
        isocheckFailures := 0, energised := false, endCause := none }
    pendingStart := none, lockCmd := true }
  enterWaiting .connect s

/-! ## Phase ends -/

/-- R12: the phase minimum of the present phase. -/
def phaseMinimum (s : State) (c : SessionContext) : Nat :=
  match s.seq.state with
  | .precharge => (s.seq.common c.profile).prechargeMin
  | .idle | .waitingRest | .connect | .isocheck | .energy | .taper | .release =>
      (s.seq.common c.profile).connectMin

/-- R12: the end condition of CONNECT and PRECHARGE. -/
def phaseEnds (s : State) (c : SessionContext) : Bool :=
  s.seq.state.waitsReady && c.readyFiltered && decide (c.phaseEntry + phaseMinimum s c ≤ s.nowMs)

/-- R12, R15, R18: the phase ends when its end condition holds. -/
def tryEndPhase (s : State) : State :=
  match s.seq.ctx with
  | none => s
  | some c =>
    if phaseEnds s c then
      if s.seq.state = .connect then
        if c.profile = .dc ∧ s.seq.dc.isocheckEnable then enterIsocheck s
        else enterWaiting .precharge s
      else enterEnergy s
    else s

/-- An arrival that can change the ready condition (R13). -/
def observeArrival (s : State) : State := tryEndPhase (observe s)

/-- R16, R80, R83: an inlet measurement of SEQ's was discarded, or ended DEAD or INCONSISTENT. -/
def isocheckFailure (s : State) : State :=
  match s.seq.state, s.seq.ctx with
  | .isocheck, some c =>
    let n := c.isocheckFailures + 1
    let s := updateCtx (fun c => { c with isocheckFailures := n }) s
    if n < Config.isocheckFailLimit then s.withIsm { s.ism with slotSeq := true }
    else enterRelease .isocheckFail s
  | _, _ => s

/-- R16: SEQ judges a completed INLET result against the warn threshold. -/
def judgeInlet (figure : Nat) (s : State) : State :=
  if s.seq.state = .isocheck then
    if s.ism.warn ≤ figure then enterWaiting .precharge s else enterRelease .inletIso s
  else s

/-! ## ENERGY and TAPER -/

/-- R19, R20, R48: a pack voltage reading ends ENERGY. -/
def enterTaper (s : State) : State :=
  let s := s.withAlc { s.alc with ceiling := some s.alc.appliedSet }
  afterState (enterState .taper none s)

/-- R20, R48: one reduction of the taper ceiling, and the comparison with end_current. -/
def reduceCeiling (p : ProfileCommon) (s : State) : State :=
  let ceiling := s.alc.ceiling.getD 0 * p.taperStep / 1000
  let s := allocate (s.withAlc { s.alc with ceiling := some ceiling })
  if ceiling < p.endCurrent then enterRelease .complete s else s

/-- R19, R20: what a pack voltage reading, already taken by the allocation, does in ENERGY and TAPER. -/
def taperReading (v : Nat) (s : State) : State :=
  match s.seq.ctx with
  | none => s
  | some c =>
    let p := s.seq.common c.profile
    match s.seq.state with
    | .energy =>
      if p.taperVoltage ≤ v then
        (if p.taperEnable then enterTaper s else enterRelease .complete s)
      else s
    | .taper => if p.taperVoltage < v then reduceCeiling p s else s
    | .idle | .waitingRest | .connect | .isocheck | .precharge | .release => s

/-- R14, R153: after an INLET sample of the session, BIL reports the cap reached. -/
def capTest (s : State) : State := if capReached s then endDelivery .cap s else s

/-- R14, R18: the closing check of the present session fails. -/
def closingFails (s : State) : State :=
  enterRelease .contactor (setFaultLatch .closeCheck false s)

end Sys2Proof.Machine
end

