-- ==== Sys2Proof/Machine/Measurement.lean ====
section
/-! DEFINITION. A measurement's sampling (R78) and its completion (R79, R80, R114, R115), and ISM's two
timers: the end of a settling (R77, R78) and the period expiry (R89). -/
namespace Sys2Proof.Machine
open Sys2Proof

/-! ## What a level does (section 5.4) -/

/-- R115: the HEATER level enters FAULT. -/
def heaterFault (s : State) : State := endRequest .isoFault s

/-- R114: the PACK level enters FAULT. The heat request ends before SEQ moves (log entry 9). -/
def packFault (s : State) : State := seqPackFault (endRequest .isoFault s)

/-- R114, R115: a level just entered. -/
def levelEntered (sec : Section) (after : IsoLevel) (s : State) : State :=
  match after with
  | .normal | .warning => s
  | .fault => match sec with
    | .pack => packFault s
    | .heater => heaterFault s
    | .inlet => s

/-- R108 to R111: a RESULT on PACK or HEATER moves the level. -/
def judgeLevel (sec : Section) (slot : Slot) (figure : Nat) (s : State) : State :=
  match s.ism.levelRecord? sec with
  | none => s
  | some l =>
    let l' := l.judge s.ism.warn s.ism.fault figure s.nowMs slot
    let t := s.withIsm (s.ism.withLevel sec l')
    if l'.level = l.level then t
    else
      levelEntered sec l'.level
        (allocate (raise (.isoLevel sec l.level l'.level (some figure)) t))

/-! ## Completion (R79) -/

/-- R79, step 3; a PACK RESULT also goes to the open session's record (R94, R154). -/
def storeOutcome (sec : Section) (slot : Slot) (o : IsoOutcome) (s : State) : State :=
  let wasFresh := (s.ism.record sec).fresh
  let s := updateRecord sec (fun r => r.store o s.ism.settings.vRef s.nowMs slot) s
  match o with
  | .result _ _ _ _ _ figure _ =>
      let s := if wasFresh then raise (.isoOverwrite sec) s else s
      let s := match sec with
        | .pack => noteInsulation figure s
        | .heater | .inlet => s
      judgeLevel sec slot figure s
  | .dead _ _ => s
  | .tolerance _ _ => s
  | .polarity _ _ => s

/-- R80: step 4 of R79. -/
def settleSlot (slot : Slot) (s : State) : State :=
  match slot with
  | .sequencer => s.withIsm { s.ism with slotSeq := false }
  | .heater => s.withIsm { s.ism with slotHeater := false }
  | .host => s.withIsm { s.ism with slotHost := none }
  | .scan => withScan (fun c => { c with measured := true }.moveOn) s

/-- R16, R62: step 6 of R79. -/
def deliver (slot : Slot) (o : IsoOutcome) (s : State) : State :=
  match slot with
  | .host | .scan => s
  | .sequencer => match o with
    | .result _ _ _ _ _ figure _ => judgeInlet figure s
    | .dead _ _ => isocheckFailure s
    | .tolerance _ _ => isocheckFailure s
    | .polarity _ _ => isocheckFailure s
  | .heater =>
    if s.htr.state = .check then
      match o with
      | .result _ _ _ _ _ figure _ => judgeCheck figure s
      | .dead _ _ => s.withIsm { s.ism with slotHeater := true }
      | .tolerance _ _ => s.withIsm { s.ism with slotHeater := true }
      | .polarity _ _ => s.withIsm { s.ism with slotHeater := true }
    else s

/-- R79, steps 1 to 7, with the four means; step 8, the arbiter, is the end of the arrival. -/
def complete (slot : Slot) (sec : Section) (a b : Nat × Nat) (s : State) : State :=
  let s := s.withIsm { s.ism with flight := none }
  let o := estimate s.ism.settings a.1 a.2 b.1 b.2
  let s := settleSlot slot (storeOutcome sec slot o s)
  let s := match sec with
    | .pack => closeQuiet s
    | .heater | .inlet => s
  raise (.isoResult sec slot o) (deliver slot o s)

/-! ## Settling and sampling (R77, R78) -/

/-- R77, R78: a settling ends. -/
def Measurement.settled (m : Measurement) (samples now : Nat) : Measurement :=
  match m.phase with
  | .settleA => { m with phase := .sampleA, phaseEnd := now + samples, sumP := 0, sumN := 0, count := 0 }
  | .settleB => { m with phase := .sampleB, phaseEnd := now + samples, sumP := 0, sumN := 0, count := 0 }
  | .sampleA | .sampleB => m

/-- R78: one rail sample, each voltage taken as at most 10,000 dV. -/
def Measurement.addSample (m : Measurement) (vp vn : Nat) : Measurement :=
  { m with
    sumP := m.sumP + min vp Config.maxVoltage, sumN := m.sumN + min vn Config.maxVoltage
    count := m.count + 1 }

/-- R78: a rail's mean. -/
def railMean (sum n : Nat) : Nat := (sum + n / 2) / n

def Measurement.means (m : Measurement) (n : Nat) : Nat × Nat :=
  (railMean m.sumP n, railMean m.sumN n)

/-- R78: SAMPLE_A ends. -/
def Measurement.toPhaseB (m : Measurement) (n now : Nat) : Measurement :=
  { m with
    phase := .settleB, phaseEnd := now + m.settle, meansA := some (m.means n), sumP := 0, sumN := 0
    count := 0 }

/-- R78: a sample taken in SAMPLE_A or SAMPLE_B. -/
def takeSample (m : Measurement) (s : State) : State :=
  let n := s.ism.settings.samples
  if m.count < n then s.withIsm { s.ism with flight := some m }
  else match m.phase with
    | .sampleA => s.withIsm { s.ism with flight := some (m.toPhaseB n s.nowMs) }
    | .sampleB => complete m.slot m.sec (m.meansA.getD (0, 0)) (m.means n) s
    | .settleA | .settleB => s

/-- R78: MFE's rail sample; outside SAMPLE_A and SAMPLE_B it is not taken. -/
def railArrival (vp vn : Nat) (s : State) : State :=
  match s.ism.flight with
  | none => s
  | some m => match m.phase with
    | .sampleA | .sampleB => takeSample (m.addSample vp vn) s
    | .settleA | .settleB => s

/-- R77, R78: the settling time has elapsed. -/
def settleEnd (s : State) : State :=
  match s.ism.flight with
  | none => s
  | some m =>
    match m.phase with
    | .settleA | .settleB =>
      if m.phaseEnd ≤ s.nowMs then
        s.withIsm { s.ism with flight := some (m.settled s.ism.settings.samples s.nowMs) }
      else s
    | .sampleA | .sampleB => s

/-! ## The period timer (R89) -/

/-- R89: the period expiry is reached: a pass starts, or the expiry is not taken and is counted. -/
def periodExpiry (s : State) : State :=
  match s.ism.scan.timer with
  | none => s
  | some t =>
    if t ≤ s.nowMs then
      let s := withScan (fun c => { c with timer := some (t + c.period * 1000) }) s
      if s.ism.scan.busy then s.withIsm { s.ism with scanOverrun := bump16 s.ism.scanOverrun }
      else withScan Scan.startPass s
    else s

end Sys2Proof.Machine
end

