-- ==== Sys2Proof/Machine/Restart.lean ====
section
/-! DEFINITION. The two resets: the warm restart (R194 and each block's own rule) and the cold start (R195
and each block's own rule). -/
namespace Sys2Proof.Machine
open Sys2Proof

/-- R29, R148: a pending start is discarded. -/
def discardStart (s : State) : State :=
  match s.seq.pendingStart with
  | none => s
  | some _ => cancelStart s

/-- R97: ISM's part, up to the resumption of the scan: a measurement in flight is discarded, the slots
are emptied and scan-busy is cleared. -/
def restartIsm (s : State) : State :=
  let s := discard s
  s.withIsm { s.ism with
    slotSeq := false, slotHeater := false, slotHost := none
    scan := { s.ism.scan with busy := false, step := none, measured := false } }

/-- R97: the scan resumes; `wasBusy` tells whether a pass was running before the restart. -/
def resumeScan (wasBusy : Bool) (s : State) : State :=
  match s.ism.scan.mode with
  | .off | .single => s
  | .periodic =>
      let s := withScan (fun c => { c with timer := some (s.nowMs + c.period * 1000) }) s
      if wasBusy then withScan Scan.startPass s else s
  | .continuous => withScan Scan.startPass s

/-- R51: ALC's part. DESIGN CHOICE (log entry 31): the emptied offer record is taken as an offer change
of R41, so I_acc is evaluated anew, also where no start and no heat request ended. -/
def restartAlc (s : State) : State := allocate (emptyOfferRecord s)

/-- R136: MTR's part; the last sample of an active run has been accumulated by HTR's end of it. -/
def restartMtr (s : State) : State :=
  s.withMtr { s.mtr with
    residues := zeroResidues, lastSample := none, timing := .timed, intervalStart := s.time }

/-- R194: the warm restart takes effect. -/
def warmRestart (s : State) : State :=
  let wasBusy := s.ism.scan.busy
  let s := discardStart (endRequest .restart s)
  let s := restartMtr (restartAlc (restartIsm s))
  let s := raise (.restarted true) (resumeScan wasBusy s)
  s.withLnk { s.lnk with restartPending := false }

/-- R28, R135, R176, R195: the part when the start-up of a cold start is complete: `State.startUp` at
time 0, with the levels the input pins have and the commands that wait; with DCC_FB closed the
contactor fault latch is set with the lock held, after RESTARTED. -/
def coldStart (s : State) : State :=
  let t := (State.startUp.withInputs s.inputs).withPending s.pending
  if s.inputs.dccFb then
    let t := t.withSeq { t.seq with lockCmd := true }
    setFaultLatch .coldStart true t
  else t

end Sys2Proof.Machine
end

