-- ==== Sys2Proof/Machine/SeqCommands.lean ====
section
/-! DEFINITION. SEQ's requests (PROFILE_SET, SEQ_CONFIG, SESSION_START, SESSION_STOP, CONTACTOR_CLEAR), the
input changes and the pack current reading SEQ takes, and SEQ's timers. -/
namespace Sys2Proof.Machine
open Sys2Proof

/-- A number of a range with both ends. -/
def inRange (lo hi n : Nat) : Bool := decide (lo ≤ n ∧ n ≤ hi)

/-! ## PROFILE_SET (R3) -/

/-- R3: the fields both profiles have, if all are in range and in their sets. -/
def profileCommon? (f : ProfileSetReq) (p : Profile) : Option ProfileCommon :=
  match holdFilterOf f.holdFilter, boolOf f.isocheckEnable, boolOf f.taperEnable with
  | some filter, some iso, some taper =>
    let confirmed := filter = .confirmed
    if inRange 100 10000 f.connectMin.toNat && inRange 100 30000 f.prechargeMin.toNat
        && inRange 1000 120000 f.holdMax.toNat && inRange 10 500 f.confirmTime.toNat
        && inRange 1000 10000 f.taperVoltage.toNat && inRange 500 990 f.taperStep.toNat
        && inRange 1 5000 f.endCurrent.toNat && inRange 0 5000 f.releaseCurrent.toNat
        && inRange 100 10000 f.releaseMax.toNat && inRange 0 60000 f.releaseRest.toNat
        && inRange 1 5000 f.maxCurrent.toNat && inRange 1000 350000 f.maxPower.toNat
        && !(decide confirmed && (decide (f.connectMin.toNat < f.confirmTime.toNat)
              || decide (f.prechargeMin.toNat < f.confirmTime.toNat)))
        && !(iso && p == .ac)
        && decide (f.endCurrent.toNat < f.maxCurrent.toNat) then
      some
        { connectMin := f.connectMin.toNat, prechargeMin := f.prechargeMin.toNat
          holdMax := f.holdMax.toNat, holdFilter := filter, confirmTime := f.confirmTime.toNat
          isocheckEnable := iso, taperEnable := taper, taperVoltage := f.taperVoltage.toNat
          taperStep := f.taperStep.toNat, endCurrent := f.endCurrent.toNat
          releaseCurrent := f.releaseCurrent.toNat, releaseMax := f.releaseMax.toNat
          releaseRest := f.releaseRest.toNat, maxCurrent := f.maxCurrent.toNat
          maxPower := f.maxPower.toNat }
    else none
  | _, _, _ => none

/-- R3: the AC profile's own fields. -/
def profileAcOnly? (f : ProfileSetReq) : Option AcOnly :=
  if inRange 800 990 f.obcEfficiency.toNat
      && (f.phaseCount.toNat == 1 || f.phaseCount.toNat == 3) then
    some { obcEfficiency := f.obcEfficiency.toNat, phaseCount := f.phaseCount.toNat }
  else none

/-- R3: the DC profile's own fields. -/
def profileDcOnly? (f : ProfileSetReq) : Option DcOnly :=
  if inRange 1000 60000 f.isocheckMax.toNat && inRange 10 500 f.matchWindow.toNat then
    some { isocheckMax := f.isocheckMax.toNat, matchWindow := f.matchWindow.toNat }
  else none

/-- R3: SEQ after the fields are checked and written, or `none` for RANGE. -/
def applyProfile (f : ProfileSetReq) (p : Profile) (q : Seq) : Option Seq :=
  match p with
  | .ac => match profileCommon? f .ac, profileAcOnly? f with
    | some c, some o => some { q with ac := c, acOnly := o }
    | _, _ => none
  | .dc => match profileCommon? f .dc, profileDcOnly? f with
    | some c, some o => some { q with dc := c, dcOnly := o }
    | _, _ => none

/-- R3, R199. -/
def profileSetOwner (f : ProfileSetReq) : Owner := fun s =>
  match profileOf f.profile with
  | none => (s, bare .range)
  | some p =>
    if s.ctxProfile? = some p then (s, bare .state)
    else match applyProfile f p s.seq with
      | some q => (s.withSeq q, bare .ok)
      | none => (s, bare .range)

def execProfileSet (a : Arrival) (f : ProfileSetReq) (s : State) :
    Host.Outcome State Fault Refusal :=
  .next (requestArrival a (Request.profileSet f).kind (profileSetOwner f) s)

/-! ## SEQ_CONFIG (R5) -/

def seqConfigOwner (f : SeqConfigReq) : Owner := fun s =>
  if inRange 0 60000 f.switchRest.toNat && inRange 0 60000 f.turnRest.toNat
      && inRange 50 500 f.contactorCheck.toNat then
    (s.withSeq { s.seq with
      settings := { switchRest := f.switchRest.toNat, turnRest := f.turnRest.toNat
                    contactorCheck := f.contactorCheck.toNat } }, bare .ok)
  else (s, bare .range)

def execSeqConfig (a : Arrival) (f : SeqConfigReq) (s : State) : Host.Outcome State Fault Refusal :=
  .next (requestArrival a (Request.seqConfig f).kind (seqConfigOwner f) s)

/-! ## SESSION_START (R8, R9) -/

/-- Section 10.6: the reply carries the sequencer state, the rest remaining and the number. DESIGN
CHOICE (log entry 33): a refusal carries rest remaining 0, also while another start waits its rest. -/
def startReply (st : Status) (state : SeqState) (rest number : Nat) : List Byte :=
  st.code :: putU8 state.code ++ putU32 rest ++ putU32 number

/-- R8: the first check that refuses the start, if any. -/
def startRefusal (s : State) (account : Nat) (p : Profile) : Option Status :=
  if s.seq.state ≠ .idle then some .state
  else if s.inputs.plug = false then some .state
  else if s.ism.packLevel.level = .fault then some .latched
  else if s.seq.faultLatch = true ∧ p = .dc then some .latched
  else if findAccount s account = none then some .notFound
  else if freePlaces s = 0 then some .full
  else if Config.max32 ≤ s.bil.counter then some .state
  else none

/-- R9, step 5: the session opens at once, or the start waits. -/
def placeStart (p : PendingStart) (s : State) : State :=
  if p.expiry ≤ s.nowMs then openSession p s
  else
    let s := s.withSeq { s.seq with pendingStart := some p }
    afterState (enterState .waitingRest none s)

/-- R9: an accepted start; the run is superseded before the rest is evaluated. -/
def acceptStart (account : Nat) (p : Profile) (policy : Policy) (cap : Option Nat) (s : State) :
    State :=
  let s := supersede s
  placeStart
    { account := account, profile := p, policy := policy, cap := cap
      expiry := restExpiry s (.charge p) } s

/-- R9: the reply of an accepted start. -/
def acceptedReply (st : Status) (s : State) : List Byte :=
  match s.seq.pendingStart with
  | some p => startReply st s.seq.state (p.expiry - s.nowMs) 0
  | none => startReply st s.seq.state 0 s.bil.counter

def sessionStartOwner (f : SessionStartReq) : Owner := fun s =>
  match profileOf f.profile, policyOf f.policy with
  | some p, some policy =>
    match startRefusal s f.accountId.toNat p with
    | some st => (s, startReply st s.seq.state 0 0)
    | none =>
      let accountCap := match findAccount s f.accountId.toNat with
        | some q => q.capWh
        | none => 0
      let (cap, clamped) := effectiveCap f.energyCap.toNat accountCap
      let t := acceptStart f.accountId.toNat p policy cap s
      (arbiter s t, acceptedReply (if clamped then .clamped else .ok) t)
  | _, _ => (s, startReply .range s.seq.state 0 0)

def execSessionStart (a : Arrival) (f : SessionStartReq) (s : State) :
    Host.Outcome State Fault Refusal :=
  .next (requestArrival a (Request.sessionStart f).kind (sessionStartOwner f) s)

/-! ## SESSION_STOP (R21) -/

def sessionStop (s : State) : State × Status :=
  match s.seq.state with
  | .idle => (s, .state)
  | .waitingRest => (cancelStart s, .ok)
  | .release => (s, .ok)
  | .connect | .isocheck | .precharge | .energy | .taper => (enterRelease .hostStop s, .ok)

/-- R21: "The reply is handed to LNK after SEQ has entered RELEASE, and it carries the state RELEASE":
so the state carried is the one SEQ entered at the stop, also where a session with energised no has
run through RELEASE to IDLE within the arrival. -/
def stopReplyState (before after : SeqState) : SeqState :=
  if before.isOpenPhase then .release else after

def sessionStopOwner : Owner := fun s =>
  let (t, st) := sessionStop s
  (arbiter s t, st.code :: putU8 (stopReplyState s.seq.state t.seq.state).code)

def execSessionStop (a : Arrival) (s : State) : Host.Outcome State Fault Refusal :=
  .next (requestArrival a Request.sessionStop.kind sessionStopOwner s)

/-! ## CONTACTOR_CLEAR (R27) -/

def contactorClearOwner : Owner := fun s =>
  if s.seq.state = .idle ∧ s.inputs.dccFb = false then
    (s.withSeq { s.seq with
      faultLatch := false, lockHeld := false
      lockCmd := if s.seq.lockHeld then false else s.seq.lockCmd }, bare .ok)
  else (s, bare .state)

def execContactorClear (a : Arrival) (s : State) : Host.Outcome State Fault Refusal :=
  .next (requestArrival a Request.contactorClear.kind contactorClearOwner s)

/-! ## Input changes -/

/-- R10, R14: PLUG becomes absent. -/
def unplug (s : State) : State :=
  match s.seq.state with
  | .waitingRest => cancelStart s
  | .idle | .release => s
  | .connect | .isocheck | .precharge | .energy | .taper => enterRelease .unplug s

def plugArrival (present : Bool) (s : State) : State :=
  if s.inputs.plug = present then s
  else
    let s := s.withInputs { s.inputs with plug := present }
    if present then s else unplug s

def execPlugChange (a : Arrival) (present : Bool) (s : State) : Host.Outcome State Fault Refusal :=
  .next (finish s (plugArrival present (arrive a s)))

/-- R15, R25: LOCK_FB is observed in CONNECT only. -/
def lockFbArrival (engaged : Bool) (s : State) : State :=
  if s.inputs.lockFb = engaged then s
  else
    let s := s.withInputs { s.inputs with lockFb := engaged }
    if s.seq.state = .connect then observeArrival s else s

def execLockFbChange (a : Arrival) (engaged : Bool) (s : State) :
    Host.Outcome State Fault Refusal :=
  .next (finish s (lockFbArrival engaged (arrive a s)))

/-- R18, R22: a feedback check whose limit lies before the present instant has run out (log entry 13). -/
def expireCheck (late : Nat → Bool) (s : State) : State :=
  match s.seq.check with
  | .closing d => if late d then closingFails s else s
  | .opening d => if late d then finishRelease (setFaultLatch .weld true s) else s
  | .none | .passed => s

/-- R14, R18, R22, R25: what DCC_FB does where it is watched. -/
def feedback (closed : Bool) (s : State) : State :=
  match s.seq.check, closed with
  | .closing _, true => s.withSeq { s.seq with check := .passed }
  | .passed, false => enterRelease .contactor (setFaultLatch .opened false s)
  | .opening _, false => unlock s
  | .closing _, false => s
  | .passed, true => s
  | .opening _, true => s
  | .none, _ => s

def dccFbArrival (closed : Bool) (s : State) : State :=
  if s.inputs.dccFb = closed then s
  else
    let s := expireCheck (fun d => decide (d < s.nowMs)) s
    feedback closed (s.withInputs { s.inputs with dccFb := closed })

def execDccFbChange (a : Arrival) (closed : Bool) (s : State) : Host.Outcome State Fault Refusal :=
  .next (finish s (dccFbArrival closed (arrive a s)))

/-- R17, R25: OBC_RDY is observed in PRECHARGE only. -/
def obcRdyArrival (ready : Bool) (s : State) : State :=
  if s.inputs.obcRdy = ready then s
  else
    let s := s.withInputs { s.inputs with obcRdy := ready }
    if s.seq.state = .precharge then observeArrival s else s

def execObcRdyChange (a : Arrival) (ready : Bool) (s : State) : Host.Outcome State Fault Refusal :=
  .next (finish s (obcRdyArrival ready (arrive a s)))

/-- R14, R17: PACK_LIVE at SEQ. -/
def seqPackLive (live : Bool) (s : State) : State :=
  match s.seq.state with
  | .precharge => observeArrival s
  | .energy | .taper => if live then s else enterRelease .packOff s
  | .idle | .waitingRest | .connect | .isocheck | .release => s

/-- R14, R17, R60, R72, R81: a change of PACK_LIVE. DESIGN CHOICE (log entry 32): ISM tests the
measurement in flight first, then SEQ takes the change, and HTR's evaluation is last; so a level rise
that a PACK measurement held is applied before HTR loses the PACK source. -/
def packLiveArrival (live : Bool) (s : State) : State :=
  if s.inputs.packLive = live then s
  else
    let s := liveTopology (s.withInputs { s.inputs with packLive := live })
    htrEvaluate (seqPackLive live s)

def execPackLiveChange (a : Arrival) (live : Bool) (s : State) : Host.Outcome State Fault Refusal :=
  .next (finish s (packLiveArrival live (arrive a s)))

/-! ## The pack current reading (R22) -/

/-- R22, step 1: release_current of the session's profile. -/
def releaseCurrent (s : State) : Nat :=
  match s.ctxProfile? with
  | some p => (s.seq.common p).releaseCurrent
  | none => 0

def packCurrentArrival (i : Int) (s : State) : State :=
  if awaitingCurrent s ∧ i < releaseCurrent s then openPower s else s

def execPackCurrentReading (a : Arrival) (i : Int) (s : State) : Host.Outcome State Fault Refusal :=
  .next (finish s (packCurrentArrival i (arrive a s)))

/-! ## Timers -/

/-- R13: the confirm time has run since the last change of ready raw. -/
def confirmDue (s : State) (c : SessionContext) : Bool :=
  let p := s.seq.common c.profile
  s.seq.state.waitsReady && p.holdFilter == .confirmed
    && (match c.rawChange with
        | some t => decide (t + p.confirmTime ≤ s.nowMs)
        | none => false)

def confirmExpiry (s : State) : State :=
  match s.seq.ctx with
  | none => s
  | some c =>
    if confirmDue s c then
      tryEndPhase (updateCtx (fun c => { c with readyFiltered := c.readyRaw }) s)
    else s

def execConfirmTimeExpiry (a : Arrival) (s : State) : Host.Outcome State Fault Refusal :=
  .next (finish s (confirmExpiry (arrive a s)))

/-- R12. -/
def execPhaseMinimumElapsed (a : Arrival) (s : State) : Host.Outcome State Fault Refusal :=
  .next (finish s (tryEndPhase (arrive a s)))

/-- R12: entry plus phase minimum plus hold_max is reached. -/
def holdDue (s : State) (c : SessionContext) : Bool :=
  s.seq.state.waitsReady
    && decide (c.phaseEntry + phaseMinimum s c + (s.seq.common c.profile).holdMax ≤ s.nowMs)

def holdTimeout (s : State) : State :=
  match s.seq.ctx with
  | none => s
  | some c => if holdDue s c then enterRelease .holdTimeout s else s

def execHoldTimeout (a : Arrival) (s : State) : Host.Outcome State Fault Refusal :=
  .next (finish s (holdTimeout (arrive a s)))

/-- R16: isocheck_max has elapsed since entry. -/
def isocheckTimeout (s : State) : State :=
  match s.seq.ctx with
  | none => s
  | some c =>
    if s.seq.state = .isocheck ∧ c.phaseEntry + s.seq.dcOnly.isocheckMax ≤ s.nowMs then
      enterRelease .isocheckTimeout s
    else s

def execIsocheckTimeout (a : Arrival) (s : State) : Host.Outcome State Fault Refusal :=
  .next (finish s (isocheckTimeout (arrive a s)))

/-- R18, R26. -/
def closingCheckExpiry (s : State) : State :=
  match s.seq.check with
  | .closing d => if d ≤ s.nowMs then closingFails s else s
  | .none | .passed | .opening _ => s

def execClosingCheckExpiry (a : Arrival) (s : State) : Host.Outcome State Fault Refusal :=
  .next (finish s (closingCheckExpiry (arrive a s)))

/-- R22, R26: the contactors are welded; the lock stays engaged and step 5 follows. -/
def openingCheckExpiry (s : State) : State :=
  match s.seq.check with
  | .opening d => if d ≤ s.nowMs then finishRelease (setFaultLatch .weld true s) else s
  | .none | .passed | .closing _ => s

def execOpeningCheckExpiry (a : Arrival) (s : State) : Host.Outcome State Fault Refusal :=
  .next (finish s (openingCheckExpiry (arrive a s)))

/-- R22, step 1. -/
def releaseMaxExpiry (s : State) : State :=
  match s.seq.ctx with
  | none => s
  | some c =>
    if awaitingCurrent s ∧ c.phaseEntry + (s.seq.common c.profile).releaseMax ≤ s.nowMs then
      openPower s
    else s

def execReleaseMaxExpiry (a : Arrival) (s : State) : Host.Outcome State Fault Refusal :=
  .next (finish s (releaseMaxExpiry (arrive a s)))

/-- R10, R11, R193: while a warm restart is pending the start does not open its session. -/
def restExpiryArrival (s : State) : State :=
  match s.seq.pendingStart with
  | none => s
  | some p =>
    if s.seq.state = .waitingRest ∧ p.expiry ≤ s.nowMs ∧ s.lnk.restartPending = false then
      openSession p s
    else s

def execRestExpiry (a : Arrival) (s : State) : Host.Outcome State Fault Refusal :=
  .next (finish s (restExpiryArrival (arrive a s)))

end Sys2Proof.Machine
end

