-- ==== Sys2Proof/Machine/AlcCommands.lean ====
section
/-! DEFINITION. ALC's requests (OFFER, DERATE_SET), the readings the allocation takes, and the hold timer. -/
namespace Sys2Proof.Machine
open Sys2Proof

/-! ## OFFER (R32, R33) -/

/-- Section 10.6. -/
def offerReply (st : Status) (s : State) : List Byte :=
  st.code :: putU8 s.alc.offer.state.code ++ putU8 s.alc.offer.source.code ++ putU32 s.alc.pAvail
    ++ putU16 s.alc.iAcc ++ putU16 s.alc.targetSet ++ putU16 s.alc.appliedSet
    ++ putU8 (levelCode s.alc.targetGrant) ++ putU8 (levelCode s.alc.appliedGrant)

/-- R32: all three limits are 0. -/
def offerWithdraws (f : OfferReq) : Bool :=
  f.currentLimit.toNat == 0 && f.voltageLimit.toNat == 0 && f.powerLimit.toNat == 0

/-- R32: a limit or the hold time is brought into range. -/
def offerClamps (f : OfferReq) : Bool :=
  decide (Config.maxCurrent < f.currentLimit.toNat) || decide (Config.maxVoltage < f.voltageLimit.toNat)
    || decide (Config.maxPower < f.powerLimit.toNat) || !inRange 100 10000 f.holdTime.toNat

/-- R32: the record a HOST write leaves. -/
def hostOffer (f : OfferReq) (now : Nat) : Offer :=
  { state := .live, source := .host
    iOff := min f.currentLimit.toNat Config.maxCurrent
    vOff := .upTo (min f.voltageLimit.toNat Config.maxVoltage)
    pOff := .upTo (min f.powerLimit.toNat Config.maxPower)
    hold := some (now + max 100 (min f.holdTime.toNat 10000)) }

def offerOwner (f : OfferReq) : Owner := fun s =>
  if offerWithdraws f then
    let s := allocate (emptyOfferRecord s)
    (s, offerReply .ok s)
  else if s.alc.offer.state = .stale then (s, offerReply .latched s)
  else
    let s := allocate (s.withAlc { s.alc with offer := hostOffer f s.nowMs })
    (s, offerReply (if offerClamps f then .clamped else .ok) s)

def execOffer (a : Arrival) (f : OfferReq) (s : State) : Host.Outcome State Fault Refusal :=
  .next (requestArrival a (Request.offer f).kind (offerOwner f) s)

/-! ## DERATE_SET (R39) -/

/-- R39: every temperature is greater than the one before it. -/
def strictlyRising : List Int → Bool
  | [] => true
  | [_] => true
  | x :: y :: rest => decide (x < y) && strictlyRising (y :: rest)

/-- R39: the table of the points, if they pass. -/
def derateTable (points : List (Byte × Half)) : Option (List (Int × Nat)) :=
  let table := points.map fun p => (p.1.toInt, p.2.toNat)
  if inRange 1 8 table.length
      && table.all (fun p => decide (-40 ≤ p.1 ∧ p.1 ≤ 100) && inRange 0 Config.maxCurrent p.2)
      && strictlyRising (table.map (·.1)) then some table
  else none

/-- R39 (DERATE_SET): the whole table is replaced and the allocation follows, or the reply is RANGE and
nothing changes. DESIGN CHOICE (log entry 37): the I_acc of either reply is looked up for that reply, so
the one of a RANGE reply takes the assumed_temp in force, also where no allocation has used it yet. -/
def derateSetOwner (f : DerateSetReq) : Owner := fun s =>
  match derateTable f.points with
  | some table =>
    let s := allocate (s.withAlc { s.alc with derate := table })
    (s, Status.ok.code :: putU16 (iAccNow s))
  | none => (s, Status.range.code :: putU16 (iAccNow s))

def execDerateSet (a : Arrival) (f : DerateSetReq) (s : State) : Host.Outcome State Fault Refusal :=
  .next (requestArrival a (Request.derateSet f).kind (derateSetOwner f) s)

/-! ## Voltage readings -/

/-- R17: a voltage reading is observed in PRECHARGE of a DC session. -/
def observeVoltage (s : State) : State :=
  if s.seq.state = .precharge ∧ s.ctxProfile? = some .dc then observeArrival s else s

/-- R17, R19, R20, R41, R48, R60: a pack voltage reading. -/
def packVoltageArrival (v : Nat) (s : State) : State :=
  let s := allocate (s.withMfe { s.mfe with packVoltage := v })
  htrEvaluate (observeVoltage (taperReading v s))

def execPackVoltageReading (a : Arrival) (v : Nat) (s : State) : Host.Outcome State Fault Refusal :=
  .next (finish s (packVoltageArrival v (arrive a s)))

/-- R81, R83: a DC inlet voltage reading below 1,000 dV discards an INLET measurement in flight, and
SEQ counts a failure when the measurement was its own. -/
def inletVoltageLow (s : State) : State :=
  let own : Bool := match s.ism.flight with
    | some m => m.slot == .sequencer && m.sec == .inlet
    | none => false
  let s := inletTopology s
  if own then isocheckFailure s else s

/-- R17, R71, R72, R81: a DC inlet voltage reading. -/
def dcInletArrival (v : Nat) (s : State) : State :=
  let s := s.withMfe { s.mfe with dcInletVoltage := v }
  observeVoltage (if v < Config.minVoltage then inletVoltageLow s else s)

def execDcInletVoltageReading (a : Arrival) (v : Nat) (s : State) :
    Host.Outcome State Fault Refusal :=
  .next (finish s (dcInletArrival v (arrive a s)))

/-- R41, R42: an AC line voltage reading; an allocation event during an AC session. -/
def acLineArrival (phase : Fin 3) (v : Nat) (s : State) : State :=
  let s := s.withMfe { s.mfe with lineVoltage := s.mfe.lineVoltage.set phase v }
  if s.acSession then allocate s else s

def execAcLineVoltageReading (a : Arrival) (phase : Fin 3) (v : Nat) (s : State) :
    Host.Outcome State Fault Refusal :=
  .next (pump (acLineArrival phase v (arrive a s)))

/-- R31: a pilot reading is a LINE write while an AC session is open and the record is not STALE. -/
def pilotArrival (i : Nat) (s : State) : State :=
  if s.acSession = true ∧ s.alc.offer.state ≠ .stale then allocate (lineWrite i s) else s

def execPilotOfferReading (a : Arrival) (i : Nat) (s : State) : Host.Outcome State Fault Refusal :=
  .next (pump (pilotArrival i (arrive a s)))

/-! ## Temperature readings -/

/-- R35, R37, R65: SENSOR_FAULT when a reading turns a valid sensor invalid. -/
def sensorFault (sensor : SensorId) (before : Sensor) (valid : Bool) (r : Reading) (s : State) :
    State :=
  if before.valid && !valid then raise (.sensorFault sensor (readingReason r)) s else s

/-- R35: a pack sensor takes a valid reading; any other clears its flag. -/
def packSensorArrival (sensor : Fin 4) (r : Reading) (s : State) : State :=
  let before := s.alc.sensors[sensor]
  let valid := readingValid r (-40) 100
  let after : Sensor :=
    if valid then { value := r.value, valid := true } else { before with valid := false }
  sensorFault (.pack sensor) before valid r
    (s.withAlc { s.alc with sensors := s.alc.sensors.set sensor after })

/-- R35, R36, R41, R61: a pack temperature reading; HTR evaluates when T_min or T_max changed. -/
def packTemperatureArrival (sensor : Fin 4) (r : Reading) (s : State) : State :=
  let t := allocate (packSensorArrival sensor r s)
  if t.alc.tMin = s.alc.tMin ∧ t.alc.tMax = s.alc.tMax then t else htrEvaluate t

def execPackTemperatureReading (a : Arrival) (sensor : Fin 4) (r : Reading) (s : State) :
    Host.Outcome State Fault Refusal :=
  .next (finish s (packTemperatureArrival sensor r (arrive a s)))

/-- R14, R37, R41: an inlet pin temperature reading. -/
def inletPinArrival (r : Reading) (s : State) : State :=
  let before := s.alc.inletPin
  let valid := readingValid r (-40) 150
  let s := sensorFault .inletPin before valid r
    (s.withAlc { s.alc with inletPin := { value := r.value, valid := valid } })
  let s := allocate s
  if valid = true ∧ 90 ≤ r.value then endOpenPhase .inletHot s else s

def execInletPinTemperatureReading (a : Arrival) (r : Reading) (s : State) :
    Host.Outcome State Fault Refusal :=
  .next (finish s (inletPinArrival r (arrive a s)))

/-! ## The hold timer (R34) -/

/-- R34: the record becomes STALE; in ENERGY and TAPER SEQ is released. -/
def goStale (s : State) : State :=
  let o := s.alc.offer
  let s := s.withAlc { s.alc with offer := { o with state := .stale, hold := none } }
  endDelivery .offerStale (allocate (raise (.offerStale o.source o.iOff o.vOff o.pOff) s))

def holdTimerArrival (s : State) : State :=
  match s.alc.offer.hold with
  | some t => if t ≤ s.nowMs then goStale s else s
  | none => s

def execHoldTimerExpiry (a : Arrival) (s : State) : Host.Outcome State Fault Refusal :=
  .next (finish s (holdTimerArrival (arrive a s)))

end Sys2Proof.Machine
end

