-- ==== Sys2Proof/Machine/HtrCommands.lean ====
section
/-! DEFINITION. HTR's requests (HEATER_CONFIG, HEAT_REQUEST, HEAT_CANCEL), the element temperature reading,
and HTR's two timers. -/
namespace Sys2Proof.Machine
open Sys2Proof

/-! ## HEATER_CONFIG (R53) -/

/-- R53: the settings of the fields, if they pass. -/
def heaterSettings? (f : HeaterConfigReq) : Option HeaterSettings :=
  if inRange 300 2400 f.packHeatMax.toNat && inRange 1000 10000 f.packFloor.toNat
      && inRange 0 60000 f.heatRest.toNat && inRange 0 3600 f.checkAge.toNat
      && inRange 1 5 f.hysteresis.toNat && inRange 60 150 f.elementMax.toNat
      && inRange 40 149 f.elementResume.toNat && inRange 20 60 f.maxPackTemp.toNat
      && decide (-40 ≤ f.assumedTemp.toInt ∧ f.assumedTemp.toInt ≤ 20)
      && decide (f.elementResume.toNat < f.elementMax.toNat) then
    some
      { packHeatMax := f.packHeatMax.toNat, packFloor := f.packFloor.toNat
        heatRest := f.heatRest.toNat, checkAge := f.checkAge.toNat
        hysteresis := f.hysteresis.toNat, elementMax := f.elementMax.toNat
        elementResume := f.elementResume.toNat, maxPackTemp := f.maxPackTemp.toNat
        assumedTemp := f.assumedTemp.toInt }
  else none

def heaterConfigOwner (f : HeaterConfigReq) : Owner := fun s =>
  if s.htr.state = .on then (s, bare .state)
  else match heaterSettings? f with
    | some settings =>
      (arbiter s (htrEvaluate (s.withHtr { s.htr with settings := settings })), bare .ok)
    | none => (s, bare .range)

def execHeaterConfig (a : Arrival) (f : HeaterConfigReq) (s : State) :
    Host.Outcome State Fault Refusal :=
  .next (requestArrival a (Request.heaterConfig f).kind (heaterConfigOwner f) s)

/-! ## HEAT_REQUEST (R56, R57) -/

/-- R56: the heater state, source and applied level after the status. -/
def heatReply (st : Status) (s : State) : List Byte :=
  let source := match s.htr.request with
    | some r => r.source
    | none => .none
  st.code :: putU8 s.htr.state.code ++ putU8 source.code ++ putU8 (levelCode s.htr.level)

/-- A level_range byte: HIGH is `true`. -/
def levelRangeOf (b : Byte) : Option Bool := boolOf b

/-- R56, R57: the record a taken HEAT_REQUEST writes, and whether a value was changed. -/
def takenRequest (f : HeatRequestReq) (high : Bool) (policy : HeatPolicy) (source : HeatSource)
    (now : Nat) : HeatRequest × Bool :=
  let target := clampInt (-20) 40 f.target.toInt
  let minutes := max 1 (min f.duration.toNat 600)
  let (level, moved) := levelUsed high f.levelStep.toNat
  ({ target := target, level := level, policy := policy, expiry := now + minutes * 60000
     hasBeenOn := false, source := source },
   moved || target != f.target.toInt || minutes != f.duration.toNat)

/-- R57: the source a replacing request carries over. -/
def carriedSource (s : State) : HeatSource :=
  match s.htr.request with
  | some r => r.source
  | none => .none

def heatRequestOwner (f : HeatRequestReq) : Owner := fun s =>
  match levelRangeOf f.levelRange, heatPolicyOf f.policy with
  | some high, some policy =>
    if s.ism.packLevel.level = .fault ∨ s.ism.heaterLevel.level = .fault then
      (s, heatReply .latched s)
    else
      let (r, clamped) := takenRequest f high policy (carriedSource s) s.nowMs
      let t := htrEvaluate (allocate (s.withHtr { s.htr with request := some r }))
      (arbiter s t, heatReply (if clamped then .clamped else .ok) t)
  | _, _ => (s, bare .range)

def execHeatRequest (a : Arrival) (f : HeatRequestReq) (s : State) :
    Host.Outcome State Fault Refusal :=
  .next (requestArrival a (Request.heatRequest f).kind (heatRequestOwner f) s)

/-! ## HEAT_CANCEL (R58) -/

def heatCancelOwner : Owner := fun s =>
  if s.htr.state = .idle then (s, Status.state.code :: putU8 s.htr.state.code)
  else
    let t := arbiter s (endRequest .cancelled s)
    (t, Status.ok.code :: putU8 t.htr.state.code)

def execHeatCancel (a : Arrival) (s : State) : Host.Outcome State Fault Refusal :=
  .next (requestArrival a Request.heatCancel.kind heatCancelOwner s)

/-! ## The element (R65) -/

/-- R65: the lock after a reading. -/
def lockAfter (set : HeaterSettings) (lock valid : Bool) (value : Int) : Bool :=
  if !valid then true
  else if set.elementMax ≤ value then true
  else if value < set.elementResume then false
  else lock

def elementArrival (r : Reading) (s : State) : State :=
  let before := s.htr.element
  let valid := readingValid r (-40) 150
  let lock := lockAfter s.htr.settings s.htr.lock valid r.value
  let t := sensorFault .element before valid r
    (s.withHtr { s.htr with element := { value := r.value, valid := valid }, lock := lock })
  if lock = s.htr.lock then t else htrEvaluate t

def execElementTemperatureReading (a : Arrival) (r : Reading) (s : State) :
    Host.Outcome State Fault Refusal :=
  .next (finish s (elementArrival r (arrive a s)))

/-! ## Timers -/

/-- R59: the request's expiry instant is reached. -/
def requestExpiry (s : State) : State :=
  match s.htr.request with
  | some r => if r.expiry ≤ s.nowMs then endRequest .expired s else s
  | none => s

def execRequestExpiry (a : Arrival) (s : State) : Host.Outcome State Fault Refusal :=
  .next (finish s (requestExpiry (arrive a s)))

/-- R60: the rest for PACK_HEAT has elapsed; HTR tests the PACK source. -/
def packHeatRestElapsed (s : State) : State :=
  if restElapsed s .packHeat then htrEvaluate s else s

def execPackHeatRestElapsed (a : Arrival) (s : State) : Host.Outcome State Fault Refusal :=
  .next (finish s (packHeatRestElapsed (arrive a s)))

end Sys2Proof.Machine
end

