-- ==== Sys2Proof/Machine/IsmCommands.lean ====
section
/-! DEFINITION. ISM's requests (ISO_CONFIG, ISO_MEASURE, ISO_STOP, ISO_RESULTS, ISO_THRESHOLDS, ISO_CLEAR),
the rail sample, and ISM's timers. -/
namespace Sys2Proof.Machine
open Sys2Proof

/-! ## ISO_CONFIG (R73) -/

/-- R73: the measurement settings, if they pass. -/
def isoSettings? (f : IsoConfigReq) : Option IsoSettings :=
  if (f.r0.toNat == 250 || f.r0.toNat == 500 || f.r0.toNat == 1000)
      && inRange 50 5000 f.settlePack.toNat && inRange 50 5000 f.settleHeater.toNat
      && inRange 50 5000 f.settleInlet.toNat && inRange 0 5000 f.settlePackExtra.toNat
      && (f.samples.toNat == 4 || f.samples.toNat == 8 || f.samples.toNat == 16
        || f.samples.toNat == 32)
      && inRange 10 200 f.tolerance.toNat && inRange 4000 10000 f.vRef.toNat then
    some
      { r0 := f.r0.toNat, settlePack := f.settlePack.toNat, settleHeater := f.settleHeater.toNat
        settleInlet := f.settleInlet.toNat, settlePackExtra := f.settlePackExtra.toNat
        samples := f.samples.toNat, tolerance := f.tolerance.toNat, vRef := f.vRef.toNat }
  else none

/-- R73: the scan of the fields, not yet started, if they pass. -/
def scanConfig? (f : IsoConfigReq) : Option Scan :=
  match scanModeOf f.scanMode, sectionOf f.firstSection, sectionOf f.lastSection with
  | some mode, some first, some last =>
    if inRange 1 600 f.period.toNat && decide (first.num ≤ last.num) then
      some { mode := mode, first := first, last := last, period := f.period.toNat, busy := false
             step := none, measured := false, timer := none }
    else none
  | _, _, _ => none

/-- R88 to R90: what a scan mode does when ISO_CONFIG sets it. -/
def Scan.begin_ (c : Scan) (now : Nat) : Scan :=
  match c.mode with
  | .off | .single => c
  | .periodic => { c with timer := some (now + c.period * 1000) }
  | .continuous => c.startPass

def isoConfigOwner (f : IsoConfigReq) : Owner := fun s =>
  if s.ism.scan.mode ≠ .off ∨ s.ism.flight.isSome = true then (s, bare .state)
  else match isoSettings? f, scanConfig? f with
    | some settings, some scan =>
      (arbiter s (s.withIsm { s.ism with settings := settings, scan := scan.begin_ s.nowMs }),
        bare .ok)
    | _, _ => (s, bare .range)

def execIsoConfig (a : Arrival) (f : IsoConfigReq) (s : State) : Host.Outcome State Fault Refusal :=
  .next (requestArrival a (Request.isoConfig f).kind (isoConfigOwner f) s)

/-! ## ISO_MEASURE (R91) -/

def isoMeasure (target : MeasureTarget) (s : State) : State × Status :=
  if s.ism.scan.mode ≠ .single then (s, .state)
  else match target with
    | .pass =>
      if s.ism.scan.busy then (s, .state) else (withScan Scan.startPass s, .ok)
    | .sec sec =>
      if s.ism.slotHost.isSome then (s, .state)
      else (s.withIsm { s.ism with slotHost := some sec }, .ok)

def isoMeasureOwner (f : IsoMeasureReq) : Owner := fun s =>
  match measureTargetOf f.target with
  | none => (s, bare .range)
  | some target =>
    match isoMeasure target s with
    | (t, .ok) => (arbiter s t, bare .ok)
    | (t, st) => (t, bare st)

def execIsoMeasure (a : Arrival) (f : IsoMeasureReq) (s : State) :
    Host.Outcome State Fault Refusal :=
  .next (requestArrival a (Request.isoMeasure f).kind (isoMeasureOwner f) s)

/-! ## ISO_STOP (R92) -/

def isoStop (s : State) : State :=
  let s := if s.ism.serves .scan || s.ism.serves .host then discard s else s
  s.withIsm { s.ism with
    slotHost := none
    scan := { s.ism.scan with mode := .off, busy := false, step := none, measured := false
                              timer := none } }

def isoStopOwner : Owner := fun s => (arbiter s (isoStop s), bare .ok)

def execIsoStop (a : Arrival) (s : State) : Host.Outcome State Fault Refusal :=
  .next (requestArrival a Request.isoStop.kind isoStopOwner s)

/-! ## ISO_RESULTS (R95) -/

/-- A section, or none, in the SCAN field of the header. -/
def scanStepCode : Option Section → Nat
  | none => 3
  | some sec => sec.num

/-- A section, or empty, in the HOST field of the header. -/
def hostSlotCode : Option Section → Nat
  | none => 0
  | some sec => sec.num + 1

/-- Section 10.6: the 8 bytes after the status. -/
def isoHeader (i : Ism) : List Byte :=
  putU8 (i.scan.mode.code + 4 * boolCode i.scan.busy + 16 * scanStepCode i.scan.step)
    ++ putU8 (netCode i.flight)
    ++ putU8 (match i.flight with
        | some m => m.slot.code + 16 * m.sec.num
        | none => 0)
    ++ putU8 (boolCode i.slotSeq + 2 * boolCode i.slotHeater + 16 * hostSlotCode i.slotHost)
    ++ putU16 i.warn ++ putU16 i.fault

/-- Section 10.6: the 21 bytes common to all sections. -/
def isoEntry (sec : Section) (r : SectionRecord) (now : Nat) : List Byte :=
  let flags := sec.num + 4 * boolCode r.result.isSome
  let marks := 16 * boolCode r.fresh + 32 * boolCode r.overwrite
  (match r.result with
    | some q =>
      putU8 (flags + 8 * boolCode q.isOver + marks + 64 * q.slot.code) ++ putU16 q.rp ++ putU16 q.rn
        ++ putU16 q.vRef ++ putU32 (ageMs now q.instant)
    | none => putU8 (flags + marks) ++ putU16 0 ++ putU16 0 ++ putU16 0 ++ putU32 0)
    ++ putU16 r.completed ++ putU16 r.discarded ++ putU16 r.dead ++ putU16 r.inconsistent
    ++ putU16 r.skipped

/-- Section 10.6: the 10 bytes of the level fields. -/
def levelEntry (l : LevelRecord) (now : Nat) : List Byte :=
  putU8 l.lowRun ++ putU8 l.faultRun ++ putU8 l.goodRun
    ++ (match l.latch with
        | some q =>
          putU8 (l.level.code + 4 + 16 * q.slot.code) ++ putU16 q.figure
            ++ putU32 (ageMs now q.instant)
        | none => putU8 l.level.code ++ putU16 0 ++ putU32 0)

/-- Section 10.6: one whole entry. -/
def sectionEntry (i : Ism) (now : Nat) (sec : Section) : List Byte :=
  isoEntry sec (i.record sec) now
    ++ (match sec with
        | .pack => putU16 i.scanOverrun
        | .heater | .inlet => [])
    ++ (match i.levelRecord? sec with
        | some l => levelEntry l now
        | none => [])

/-- The sections a mask names, in the order PACK, HEATER, INLET. -/
def sectionsOf (mask : Byte) : List Section :=
  [Section.pack, .heater, .inlet].filter fun sec => mask.getLsbD sec.num

/-- R95: the flags and counts cleared after the reply is built. -/
def SectionRecord.reported (r : SectionRecord) (clearOverwrite clearCounts : Bool) : SectionRecord :=
  let r := { r with fresh := false, overwrite := r.overwrite && !clearOverwrite }
  if clearCounts then
    { r with completed := 0, discarded := 0, dead := 0, inconsistent := 0, skipped := 0 }
  else r

/-- R95: one reported section; PACK also has the scan overrun count. -/
def Ism.reportSection (clearOverwrite clearCounts : Bool) (i : Ism) (sec : Section) : Ism :=
  let i := i.withRecord sec ((i.record sec).reported clearOverwrite clearCounts)
  match sec with
  | .pack => if clearCounts then { i with scanOverrun := 0 } else i
  | .heater | .inlet => i

def isoResultsOwner (f : IsoResultsReq) : Owner := fun s =>
  match boolOf f.clearOverwrite, boolOf f.clearCounts with
  | some overwrite, some counts =>
    if 8 ≤ f.sections.toNat then (s, bare .range)
    else
      let named := sectionsOf f.sections
      (s.withIsm (named.foldl (Ism.reportSection overwrite counts) s.ism),
        Status.ok.code :: isoHeader s.ism ++ named.flatMap (sectionEntry s.ism s.nowMs))
  | _, _ => (s, bare .range)

def execIsoResults (a : Arrival) (f : IsoResultsReq) (s : State) :
    Host.Outcome State Fault Refusal :=
  .next (requestArrival a (Request.isoResults f).kind (isoResultsOwner f) s)

/-! ## ISO_THRESHOLDS (R105) -/

def isoThresholdsOwner (f : IsoThresholdsReq) : Owner := fun s =>
  if inRange 100 2000 f.warn.toNat && inRange 50 1999 f.fault.toNat
      && decide (f.fault.toNat < f.warn.toNat) then
    (s.withIsm { s.ism with warn := f.warn.toNat, fault := f.fault.toNat }, bare .ok)
  else (s, bare .range)

def execIsoThresholds (a : Arrival) (f : IsoThresholdsReq) (s : State) :
    Host.Outcome State Fault Refusal :=
  .next (requestArrival a (Request.isoThresholds f).kind (isoThresholdsOwner f) s)

/-! ## ISO_CLEAR (R112) -/

/-- R112: the level record after the request, and the status. -/
def LevelRecord.clearFault (l : LevelRecord) : LevelRecord × Status :=
  match l.level with
  | .normal => (l, .ok)
  | .warning => (l, .state)
  | .fault => if 3 ≤ l.goodRun then ({ l with level := .normal, latch := none }, .ok) else (l, .state)

def isoClearOwner (f : IsoClearReq) : Owner := fun s =>
  match sectionOf f.section_ with
  | none => (s, bare .range)
  | some sec =>
    match s.ism.levelRecord? sec with
    | none => (s, bare .range)
    | some l =>
      let (l', st) := l.clearFault
      let t := s.withIsm (s.ism.withLevel sec l')
      let t := if l'.level = l.level then t
        else allocate (raise (.isoLevel sec l.level l'.level none) t)
      (t, st.code :: putU8 l'.level.code ++ putU8 l'.goodRun ++ putU8 (boolCode l'.latch.isSome))

def execIsoClear (a : Arrival) (f : IsoClearReq) (s : State) : Host.Outcome State Fault Refusal :=
  .next (requestArrival a (Request.isoClear f).kind (isoClearOwner f) s)

/-! ## The rail sample and the timers -/

def execRailSample (a : Arrival) (vp vn : Nat) (s : State) : Host.Outcome State Fault Refusal :=
  .next (finish s (railArrival vp vn (arrive a s)))

def execSettleEnd (a : Arrival) (s : State) : Host.Outcome State Fault Refusal :=
  .next (finish s (settleEnd (arrive a s)))

def execPeriodExpiry (a : Arrival) (s : State) : Host.Outcome State Fault Refusal :=
  .next (finish s (periodExpiry (arrive a s)))

end Sys2Proof.Machine
end

