-- ==== Sys2Proof/Machine/MtrCommands.lean ====
section
/-! DEFINITION. MTR's request (METER_QUERY), the zero crossing, and the ends of intervals. -/
namespace Sys2Proof.Machine
open Sys2Proof

/-! ## METER_QUERY (R134, section 10.6) -/

/-- Offsets 8 to 31: the last sample; its age is whole ms of the µs since its end (log entry 26). -/
def sampleBytes (time : Nat) : Option Sample → List Byte
  | some q =>
      putU8 1 ++ putU32 (capAt Config.max32 ((time - q.endUs) / 1000)) ++ putU32 q.duration
        ++ putU8 (boolCode q.cycles.isSome) ++ putU8 (q.cycles.getD 0) ++ putU8 q.kind.code
        ++ putU8 q.kind.partialCode ++ putU32 q.powers.inlet.toNat ++ putU16 q.powers.heater.toNat
        ++ putI32 q.powers.pack ++ putU8 q.destination.code
  | none =>
      putU8 0 ++ putU32 0 ++ putU32 0 ++ putU8 0 ++ putU8 0 ++ putU8 0 ++ putU8 0 ++ putU32 0
        ++ putU16 0 ++ putU32 0 ++ putU8 0

/-- Offsets 44 to 80: the open session's accumulators. -/
def sessionBytes : Option OpenRecord → List Byte
  | some r => putU8 1 ++ putU32s r.band ++ putU32s r.heaterBand ++ putI32 r.netPack
  | none => putU8 0 ++ putU32s (Vector.replicate 4 0) ++ putU32s (Vector.replicate 4 0) ++ putU32 0

/-- Offsets 81 to 89: the accumulators of an active run. -/
def runBytes (s : State) : List Byte :=
  match s.htr.run with
  | some r =>
    if r.ended.isNone then putU8 1 ++ putI32 r.packEnergy ++ putU32 r.heaterEnergy
    else putU8 0 ++ putU32 0 ++ putU32 0
  | none => putU8 0 ++ putU32 0 ++ putU32 0

def meterReply (s : State) : List Byte :=
  let m := s.mtr
  Status.ok.code :: putU8 m.gate.code ++ putU8 m.timing.code ++ putU32 (s.time - m.intervalStart)
    ++ putU8 m.timing.cycles ++ sampleBytes s.time m.lastSample
    ++ putU32 m.residues.inlet ++ putU32 m.residues.heater ++ putU32 m.residues.pack
    ++ sessionBytes s.bil.openRec ++ runBytes s

def meterQueryOwner : Owner := fun s => (s, meterReply s)

def execMeterQuery (a : Arrival) (s : State) : Host.Outcome State Fault Refusal :=
  .next (requestArrival a Request.meterQuery.kind meterQueryOwner s)

/-! ## Zero crossings (R124, R125) -/

def setTiming (t : Timing) (s : State) : State := s.withMtr { s.mtr with timing := t }

/-- R124: crossings are counted while the gate is OPEN in an AC session. -/
def countsCrossings (s : State) : Bool := s.mtr.gate == .opened && s.acSession

/-- R125: a crossing counted in MAINS timing. -/
def mainsCrossing (cycles : Nat) (s : State) : State :=
  let s := setTiming (.mains (cycles + 1) s.time) s
  if Config.cyclesPerInterval ≤ cycles + 1 then
    capTest (setTiming (.mains 0 s.time) (closeInterval .full s))
  else s

def crossingArrival (s : State) : State :=
  if countsCrossings s then
    match s.mtr.timing with
    | .timed => capTest (setTiming (.mains 0 s.time) (closeInterval .boundary s))
    | .mains cycles _ => mainsCrossing cycles s
  else s

def execZeroCrossing (a : Arrival) (s : State) : Host.Outcome State Fault Refusal :=
  .next (finish s (crossingArrival (arrive a s)))

/-! ## Ends of intervals -/

/-- R123: 200,000 µs have passed in TIMED timing. -/
def timedEnd (s : State) : State :=
  match s.mtr.timing with
  | .timed =>
    if s.mtr.intervalStart + Config.timedInterval ≤ s.time then capTest (closeInterval .full s)
    else s
  | .mains _ _ => s

def execTimedIntervalEnd (a : Arrival) (s : State) : Host.Outcome State Fault Refusal :=
  .next (finish s (timedEnd (arrive a s)))

/-- R126: a mains loss is detected. The cap test belongs to step 1's sample. -/
def loseMains (cycles : Nat) (s : State) : State :=
  let duration := s.time - s.mtr.intervalStart
  let s := capTest (setTiming .timed (closeInterval .mainsLoss s))
  endDelivery .mainsLoss (raise (.mainsLoss cycles duration) s)

def mainsLossArrival (s : State) : State :=
  match s.mtr.timing with
  | .timed => s
  | .mains cycles last =>
    if s.mtr.gate = .opened ∧ last + Config.mainsLossTime ≤ s.time then loseMains cycles s else s

def execMainsLoss (a : Arrival) (s : State) : Host.Outcome State Fault Refusal :=
  .next (finish s (mainsLossArrival (arrive a s)))

end Sys2Proof.Machine
end

