-- ==== Sys2Proof/Machine/BilCommands.lean ====
section
/-! DEFINITION. BIL's requests: TIME_SET, ACCOUNT_SET, ACCOUNT_CLEAR, TARIFF_LOAD, RECORD_PEEK,
RECORD_DROP and SEQ_BASE_SET. -/
namespace Sys2Proof.Machine
open Sys2Proof

/-! ## TIME_SET (R138) -/

/-- Section 10.6: the reading just before the request. -/
def timeReply (r : ClockReading) : List Byte :=
  Status.ok.code :: putU8 (boolCode r.valid) ++ putU16 r.day ++ putU32 r.seconds

def timeSetOwner (f : TimeSetReq) : Owner := fun s =>
  if f.seconds.toNat ≤ 86399 then
    (s.withBil { s.bil with
      clock := { valid := true, setDay := f.day.toNat, setSeconds := f.seconds.toNat
                 setInstant := s.time } }, timeReply (readClock s))
  else (s, bare .range)

def execTimeSet (a : Arrival) (f : TimeSetReq) (s : State) : Host.Outcome State Fault Refusal :=
  .next (requestArrival a (Request.timeSet f).kind (timeSetOwner f) s)

/-! ## Accounts (R141, R142) -/

/-- R141, R142: the account of the open session or of the pending start. -/
def accountInUse (s : State) (id : Nat) : Bool :=
  (match s.seq.ctx with
    | some c => c.account == id
    | none => false)
  || (match s.seq.pendingStart with
    | some p => p.account == id
    | none => false)

/-- Section 10.6: the entries in the table after the request. -/
def accountReply (st : Status) (s : State) : List Byte := st.code :: putU8 s.bil.accounts.length

/-- R141: the entry is replaced whole, or added. -/
def putAccount (q : Account) (table : List Account) : List Account :=
  if table.any (fun e => e.id == q.id) then table.map fun e => if e.id = q.id then q else e
  else table ++ [q]

/-- R141, check 1. -/
def account? (f : AccountSetReq) : Option Account :=
  match heaterBillingOf f.heaterBilling with
  | some billing =>
    if f.id.toNat ≠ 0 ∧ f.capWh.toNat ≤ Config.maxAccountCap then
      some { id := f.id.toNat, capWh := f.capWh.toNat, billing := billing }
    else none
  | none => none

def accountSetOwner (f : AccountSetReq) : Owner := fun s =>
  match account? f with
  | none => (s, bare .range)
  | some q =>
    if accountInUse s q.id then (s, accountReply .state s)
    else if findAccount s q.id = none ∧ Config.accountPlaces ≤ s.bil.accounts.length then
      (s, accountReply .full s)
    else
      let s := s.withBil { s.bil with accounts := putAccount q s.bil.accounts }
      (s, accountReply .ok s)

def execAccountSet (a : Arrival) (f : AccountSetReq) (s : State) :
    Host.Outcome State Fault Refusal :=
  .next (requestArrival a (Request.accountSet f).kind (accountSetOwner f) s)

def accountClearOwner (f : AccountClearReq) : Owner := fun s =>
  let id := f.id.toNat
  if findAccount s id = none then (s, accountReply .notFound s)
  else if accountInUse s id then (s, accountReply .state s)
  else
    let s := s.withBil { s.bil with accounts := s.bil.accounts.filter fun e => e.id != id }
    (s, accountReply .ok s)

def execAccountClear (a : Arrival) (f : AccountClearReq) (s : State) :
    Host.Outcome State Fault Refusal :=
  .next (requestArrival a (Request.accountClear f).kind (accountClearOwner f) s)

/-! ## TARIFF_LOAD (R146, R147) -/

/-- R146: a window whose band is in 0 to 3. -/
def window? (w : Half × Byte) : Option (Nat × Fin 4) :=
  if h : w.2.toNat < 4 then
    if w.1.toNat ≤ 1439 then some (w.1.toNat, ⟨w.2.toNat, h⟩) else none
  else none

/-- R146: the windows and prices of a load, if they pass. -/
def tariff? (f : TariffLoadReq) : Option (List (Nat × Fin 4) × Vector Nat 4) :=
  match f.windows.mapM window? with
  | none => none
  | some windows =>
    let price (w : Word) : Bool := inRange 0 999999 w.toNat
    if inRange 1 6 windows.length && price f.price0 && price f.price1 && price f.price2
        && price f.price3 && strictlyRising (windows.map fun w => Int.ofNat w.1) then
      some (windows, #v[f.price0.toNat, f.price1.toNat, f.price2.toNat, f.price3.toNat])
    else none

/-- Section 10.6: where the loaded table went (0 active, 1 pending, 2 not loaded). -/
def tariffReply (st : Status) (placement : Nat) (b : Bil) : List Byte :=
  st.code :: putU8 b.active.generation ++ putU8 (boolCode b.pendingTariff.isSome)
    ++ putU8 (match b.pendingTariff with
        | some t => t.generation
        | none => 0)
    ++ putU8 placement

/-- R147: a load waits while a session is open or a start is pending. -/
def loadWaits (s : State) : Bool := s.sessionOpen || s.seq.pendingStart.isSome

/-- R147: the generation given to the loaded table. -/
def loadGeneration (b : Bil) : Nat :=
  match b.pendingTariff with
  | some t => t.generation
  | none => (b.active.generation + 1) % 256

def tariffLoadOwner (f : TariffLoadReq) : Owner := fun s =>
  match tariff? f with
  | none => (s, tariffReply .range 2 s.bil)
  | some (windows, prices) =>
    let table : Tariff := { generation := loadGeneration s.bil, windows := windows, prices := prices }
    if loadWaits s then
      let b := { s.bil with pendingTariff := some table }
      (s.withBil b, tariffReply .ok 1 b)
    else
      let b := { s.bil with active := table, pendingTariff := none }
      (s.withBil b, tariffReply .ok 0 b)

def execTariffLoad (a : Arrival) (f : TariffLoadReq) (s : State) :
    Host.Outcome State Fault Refusal :=
  .next (requestArrival a (Request.tariffLoad f).kind (tariffLoadOwner f) s)

/-! ## The queue (R160, R161) -/

def recordPeekOwner : Owner := fun s =>
  let counts := putU8 s.bil.queue.length ++ putU8 (freePlaces s)
  match s.bil.queue with
  | [] => (s, Status.noRecord.code :: counts)
  | r :: _ => (s, Status.ok.code :: counts ++ r.bytes)

def execRecordPeek (a : Arrival) (s : State) : Host.Outcome State Fault Refusal :=
  .next (requestArrival a Request.recordPeek.kind recordPeekOwner s)

/-- Section 10.6: counts and the oldest record's number, after the request. -/
def dropReply (st : Status) (s : State) : List Byte :=
  st.code :: putU8 s.bil.queue.length ++ putU8 (freePlaces s)
    ++ putU32 (match s.bil.queue with
        | [] => 0
        | r :: _ => r.sequence)

def recordDropOwner (f : RecordDropReq) : Owner := fun s =>
  match s.bil.queue with
  | [] => (s, dropReply .noRecord s)
  | r :: rest =>
    if f.sequence.toNat = r.sequence then
      let s := s.withBil { s.bil with queue := rest }
      (s, dropReply .ok s)
    else (s, dropReply .mismatch s)

def execRecordDrop (a : Arrival) (f : RecordDropReq) (s : State) :
    Host.Outcome State Fault Refusal :=
  .next (requestArrival a (Request.recordDrop f).kind (recordDropOwner f) s)

/-! ## SEQ_BASE_SET (R163) -/

def seqBaseSetOwner (f : SeqBaseSetReq) : Owner := fun s =>
  if s.bil.queue = [] ∧ s.seq.state = .idle then
    (s.withBil { s.bil with counter := f.base.toNat }, Status.ok.code :: putU32 f.base.toNat)
  else (s, Status.state.code :: putU32 s.bil.counter)

def execSeqBaseSet (a : Arrival) (f : SeqBaseSetReq) (s : State) :
    Host.Outcome State Fault Refusal :=
  .next (requestArrival a (Request.seqBaseSet f).kind (seqBaseSetOwner f) s)

end Sys2Proof.Machine
end

