-- ==== Sys2Proof/Machine/EvtCommands.lean ====
section
/-! DEFINITION. EVT's requests: ROUTE_SET and EVENTS_CLEAR. -/
namespace Sys2Proof.Machine
open Sys2Proof

/-- R173: the pending set, the owed set and ALERT, as they stand after the request. -/
def routeReply (e : Evt) : List Byte :=
  Status.ok.code :: putU16 e.pendingSet ++ putU16 e.owedSet ++ putU8 (boolCode e.alert)

def routeSetOwner (f : RouteSetReq) : Owner := fun s =>
  match routeOf f.route with
  | none => (s, bare .range)
  | some route =>
    if kindsMaskOk f.kinds then
      let e := s.evt.onMask f.kinds (KindRecord.setRoute route)
      (s.withEvt e, routeReply e)
    else (s, bare .range)

def execRouteSet (a : Arrival) (f : RouteSetReq) (s : State) : Host.Outcome State Fault Refusal :=
  .next (requestArrival a (Request.routeSet f).kind (routeSetOwner f) s)

/-- R174: the counts and pending set before the clear, and the pending set after it. -/
def clearReply (before after : Evt) : List Byte :=
  Status.ok.code :: kindNumbers.flatMap (fun k => putU8 (before.at k).count)
    ++ putU16 before.pendingSet ++ putU16 after.pendingSet

def eventsClearOwner (f : EventsClearReq) : Owner := fun s =>
  if kindsMaskOk f.kinds then
    let e := s.evt.onMask f.kinds KindRecord.clear
    (s.withEvt e, clearReply s.evt e)
  else (s, bare .range)

def execEventsClear (a : Arrival) (f : EventsClearReq) (s : State) :
    Host.Outcome State Fault Refusal :=
  .next (requestArrival a (Request.eventsClear f).kind (eventsClearOwner f) s)

end Sys2Proof.Machine
end

