-- ==== Sys2Proof/Machine/LnkCommands.lean ====
section
/-! DEFINITION. LNK's own requests (STATUS, RESTART, LINK_COUNTS_CLEAR), the receive assembler's byte and
gap timer, the end of a frame sent, and the cold start. -/
namespace Sys2Proof.Machine
open Sys2Proof

/-! ## STATUS (R192, section 10.9) -/

def countBytes (c : LinkCounts) : List Byte :=
  putU16 c.requests ++ putU16 c.busy ++ putU16 c.overruns ++ putU16 c.gapErrors
    ++ putU16 c.lengthErrors ++ putU16 c.checkErrors ++ putU16 c.notices

/-- Offsets 1 to 10: the sequencer. -/
def statusSeq (s : State) : List Byte :=
  putU8 s.seq.state.code
    ++ putU32 (match s.seq.ctx with
        | some c => c.sequence
        | none => 0)
    ++ putU32 (match s.seq.pendingStart with
        | some p => p.expiry - s.nowMs
        | none => 0)
    ++ putU8 (boolCode s.seq.faultLatch + 2 * boolCode s.seq.lockHeld)

/-- Offsets 11 to 37: the offer and the allocation. -/
def statusAlc (s : State) : List Byte :=
  let o := s.alc.offer
  putU8 o.state.code ++ putU8 o.source.code ++ putU16 o.iOff ++ putLimit16 o.vOff
    ++ putLimit32 o.pOff
    ++ putU16 (match o.hold with
        | some t => t - s.nowMs
        | none => 0)
    ++ putU32 s.alc.pAvail ++ putU16 s.alc.iAcc ++ putTemp s.alc.tMin ++ putTemp s.alc.tMax
    ++ putU16 s.alc.targetSet ++ putU16 s.alc.appliedSet ++ putU8 (levelCode s.alc.targetGrant)
    ++ putU8 (levelCode s.alc.appliedGrant) ++ putU8 (boolCode s.alc.quiet)

/-- Offsets 38 to 44: the heater and the insulation; INLET's level is always 3, NONE. -/
def statusHeat (s : State) : List Byte :=
  putU8 s.htr.state.code ++ putU8 (carriedSource s).code ++ putU8 (levelCode s.htr.level)
    ++ putU8 s.ism.packLevel.level.code ++ putU8 s.ism.heaterLevel.level.code ++ putU8 3
    ++ putU8 (netCode s.ism.flight)

/-- Offsets 45 to 57: billing. -/
def statusBil (s : State) : List Byte :=
  let r := readClock s
  putU8 s.bil.queue.length ++ putU8 (freePlaces s) ++ putU32 s.bil.counter
    ++ putU8 (boolCode r.valid) ++ putU16 r.day ++ putU32 r.seconds

/-- Offsets 58 to 76: events and the link. -/
def statusEvt (s : State) : List Byte :=
  putU16 s.evt.pendingSet ++ putU16 s.evt.owedSet ++ putU8 (boolCode s.evt.alert)
    ++ countBytes s.lnk.counts

def statusReply (s : State) : List Byte :=
  Status.ok.code :: statusSeq s ++ statusAlc s ++ statusHeat s ++ statusBil s ++ statusEvt s

def statusOwner : Owner := fun s => (s, statusReply s)

def execStatus (a : Arrival) (s : State) : Host.Outcome State Fault Refusal :=
  .next (requestArrival a Request.status.kind statusOwner s)

/-! ## RESTART (R193) -/

def restartOwner : Owner := fun s =>
  match s.seq.state with
  | .idle | .waitingRest =>
      (s.withLnk { s.lnk with restartPending := true },
        Status.ok.code :: putU8 (boolCode s.seq.pendingStart.isSome))
  | .connect | .isocheck | .precharge | .energy | .taper | .release => (s, bare .state)

def execRestart (a : Arrival) (s : State) : Host.Outcome State Fault Refusal :=
  .next (requestArrival a Request.restart.kind restartOwner s)

/-! ## LINK_COUNTS_CLEAR (R191) -/

def linkCountsClearOwner : Owner := fun s =>
  (s.withLnk { s.lnk with counts := zeroCounts }, Status.ok.code :: countBytes s.lnk.counts)

def execLinkCountsClear (a : Arrival) (s : State) : Host.Outcome State Fault Refusal :=
  .next (requestArrival a Request.linkCountsClear.kind linkCountsClearOwner s)

/-! ## A received frame (R179, R181, R183) -/

/-- R183: the owner of each request. -/
def requestOwner : Request → Owner
  | .profileSet f => profileSetOwner f
  | .seqConfig f => seqConfigOwner f
  | .sessionStart f => sessionStartOwner f
  | .sessionStop => sessionStopOwner
  | .contactorClear => contactorClearOwner
  | .offer f => offerOwner f
  | .derateSet f => derateSetOwner f
  | .heaterConfig f => heaterConfigOwner f
  | .heatRequest f => heatRequestOwner f
  | .heatCancel => heatCancelOwner
  | .isoConfig f => isoConfigOwner f
  | .isoMeasure f => isoMeasureOwner f
  | .isoStop => isoStopOwner
  | .isoResults f => isoResultsOwner f
  | .isoThresholds f => isoThresholdsOwner f
  | .isoClear f => isoClearOwner f
  | .meterQuery => meterQueryOwner
  | .timeSet f => timeSetOwner f
  | .accountSet f => accountSetOwner f
  | .accountClear f => accountClearOwner f
  | .tariffLoad f => tariffLoadOwner f
  | .recordPeek => recordPeekOwner
  | .recordDrop f => recordDropOwner f
  | .seqBaseSet f => seqBaseSetOwner f
  | .routeSet f => routeSetOwner f
  | .eventsClear f => eventsClearOwner f
  | .status => statusOwner
  | .restart => restartOwner
  | .linkCountsClear => linkCountsClearOwner

/-- R183: LNK answers an unknown kind and a wrong length itself. -/
def frameOwner (kind : Byte) (payload : List Byte) : Owner :=
  match parseRequest kind payload with
  | .unknown => fun s => (s, bare .unknown)
  | .badLength => fun s => (s, bare .length)
  | .request r => requestOwner r

def setRx (rx : Assembler) (s : State) : State := s.withLnk { s.lnk with rx := rx }

/-- R181: a frame ends in a receive error. -/
def linkError (reason : LinkReason) (f : LinkCounts → LinkCounts) (s : State) : State :=
  raise (.linkError reason) (count f (setRx .hunt s))

/-- R180: the frame in assembly is discarded by the gap timer. -/
def gapError (s : State) : State :=
  linkError .gap (fun c => { c with gapErrors := bump16 c.gapErrors }) s

/-- R181: the check of a complete frame. -/
def frameCheck (kind : Byte) (payload : List Byte) : Half :=
  check (byteOf payload.length :: kind :: payload)

/-- R181, R183: the second check byte arrives. -/
def endFrame (kind : Byte) (payload : List Byte) (received : Half) (s : State) : State :=
  if received = frameCheck kind payload then
    frameComplete kind (frameOwner kind payload) (setRx .hunt s)
  else linkError .check (fun c => { c with checkErrors := bump16 c.checkErrors }) s

/-- R179: the state after the kind byte or a payload byte. -/
def payloadOrCheck (now len : Nat) (kind : Byte) (got : List Byte) : Assembler :=
  if len ≤ got.length then .checkLow now kind got else .payload now len kind got

/-- R179: one byte taken. -/
def takeByte (b : Byte) (s : State) : State :=
  match s.lnk.rx with
  | .hunt => if b = 0xC3#8 then setRx (.length s.time) s else s
  | .length _ =>
      if b.toNat ≤ Config.maxPayload then setRx (.kind s.time b.toNat) s
      else linkError .length (fun c => { c with lengthErrors := bump16 c.lengthErrors }) s
  | .kind _ len => setRx (payloadOrCheck s.time len b []) s
  | .payload _ len kind got => setRx (payloadOrCheck s.time len kind (got ++ [b])) s
  | .checkLow _ kind got => setRx (.checkHigh s.time kind got b) s
  | .checkHigh _ kind got low => endFrame kind got (b ++ low) s

/-- The arrival instant of the last byte of a frame in assembly. -/
def Assembler.last? : Assembler → Option Nat
  | .hunt => none
  | .length t => some t
  | .kind t _ => some t
  | .payload t _ _ _ => some t
  | .checkLow t _ _ => some t
  | .checkHigh t _ _ _ => some t

/-- R180: more than 2,000 µs have passed since the last byte of the frame in assembly. -/
def gapDue (s : State) : Bool :=
  match s.lnk.rx.last? with
  | some t => decide (t + Config.gapLimit < s.time)
  | none => false

/-- R180: the gap timer's expiry. -/
def gapExpiry (s : State) : State := if gapDue s then gapError s else s

/-- R179, R180: a byte after a gap is taken in HUNT (log entry 13). -/
def byteArrival (b : Byte) (s : State) : State := takeByte b (gapExpiry s)

def execLinkRxByte (a : Arrival) (b : Byte) (s : State) : Host.Outcome State Fault Refusal :=
  .next (pump (byteArrival b (arrive a s)))

def execGapTimeout (a : Arrival) (s : State) : Host.Outcome State Fault Refusal :=
  .next (pump (gapExpiry (arrive a s)))

/-! ## The end of a frame sent (R188, R194) -/

/-- The last stop bit has been sent: the outbound side is FREE, and the warm restart takes effect when
the frame was the reply of the RESTART taken. -/
def frameSent (s : State) : State :=
  match s.lnk.out with
  | .free => s
  | .sending _ ends restart =>
    if ends ≤ s.time then
      let t := s.withLnk { s.lnk with out := .free }
      if restart then arbiter s (warmRestart t) else t
    else s

def execOutboundFrameSent (a : Arrival) (s : State) : Host.Outcome State Fault Refusal :=
  .next (pump (frameSent (arrive a s)))

/-! ## The cold start (R195) -/

/-- The time base restarts, so the arrival's advance is not carried over; the outbound side takes the
RESTARTED notice (log entry 23). -/
def execColdStart (_a : Arrival) (s : State) : Host.Outcome State Fault Refusal :=
  .next (pump (coldStart s))

end Sys2Proof.Machine
end

