-- ==== Sys2Proof/Machine/Dispatch.lean ====
section
/-! DEFINITION. One arm per command, each one call of its meaning. -/
namespace Sys2Proof.Machine
open Sys2Proof

def exec (i : Instr) (s : State) : Host.Outcome State Fault Refusal :=
  match i with
  | .profileSet a f => Sys2Proof.Machine.execProfileSet a f s
  | .seqConfig a f => Sys2Proof.Machine.execSeqConfig a f s
  | .sessionStart a f => Sys2Proof.Machine.execSessionStart a f s
  | .sessionStop a => Sys2Proof.Machine.execSessionStop a s
  | .contactorClear a => Sys2Proof.Machine.execContactorClear a s
  | .offer a f => Sys2Proof.Machine.execOffer a f s
  | .derateSet a f => Sys2Proof.Machine.execDerateSet a f s
  | .heaterConfig a f => Sys2Proof.Machine.execHeaterConfig a f s
  | .heatRequest a f => Sys2Proof.Machine.execHeatRequest a f s
  | .heatCancel a => Sys2Proof.Machine.execHeatCancel a s
  | .isoConfig a f => Sys2Proof.Machine.execIsoConfig a f s
  | .isoMeasure a f => Sys2Proof.Machine.execIsoMeasure a f s
  | .isoStop a => Sys2Proof.Machine.execIsoStop a s
  | .isoResults a f => Sys2Proof.Machine.execIsoResults a f s
  | .isoThresholds a f => Sys2Proof.Machine.execIsoThresholds a f s
  | .isoClear a f => Sys2Proof.Machine.execIsoClear a f s
  | .meterQuery a => Sys2Proof.Machine.execMeterQuery a s
  | .timeSet a f => Sys2Proof.Machine.execTimeSet a f s
  | .accountSet a f => Sys2Proof.Machine.execAccountSet a f s
  | .accountClear a f => Sys2Proof.Machine.execAccountClear a f s
  | .tariffLoad a f => Sys2Proof.Machine.execTariffLoad a f s
  | .recordPeek a => Sys2Proof.Machine.execRecordPeek a s
  | .recordDrop a f => Sys2Proof.Machine.execRecordDrop a f s
  | .seqBaseSet a f => Sys2Proof.Machine.execSeqBaseSet a f s
  | .routeSet a f => Sys2Proof.Machine.execRouteSet a f s
  | .eventsClear a f => Sys2Proof.Machine.execEventsClear a f s
  | .status a => Sys2Proof.Machine.execStatus a s
  | .restart a => Sys2Proof.Machine.execRestart a s
  | .linkCountsClear a => Sys2Proof.Machine.execLinkCountsClear a s
  | .linkRxByte a b => Sys2Proof.Machine.execLinkRxByte a b s
  | .gapTimeout a => Sys2Proof.Machine.execGapTimeout a s
  | .outboundFrameSent a => Sys2Proof.Machine.execOutboundFrameSent a s
  | .coldStart a => Sys2Proof.Machine.execColdStart a s
  | .plugChange a present => Sys2Proof.Machine.execPlugChange a present s
  | .lockFbChange a engaged => Sys2Proof.Machine.execLockFbChange a engaged s
  | .dccFbChange a closed => Sys2Proof.Machine.execDccFbChange a closed s
  | .obcRdyChange a ready => Sys2Proof.Machine.execObcRdyChange a ready s
  | .packLiveChange a live => Sys2Proof.Machine.execPackLiveChange a live s
  | .packVoltageReading a v => Sys2Proof.Machine.execPackVoltageReading a v s
  | .packCurrentReading a v => Sys2Proof.Machine.execPackCurrentReading a v s
  | .dcInletVoltageReading a v => Sys2Proof.Machine.execDcInletVoltageReading a v s
  | .acLineVoltageReading a phase v => Sys2Proof.Machine.execAcLineVoltageReading a phase v s
  | .pilotOfferReading a v => Sys2Proof.Machine.execPilotOfferReading a v s
  | .packTemperatureReading a sensor r => Sys2Proof.Machine.execPackTemperatureReading a sensor r s
  | .inletPinTemperatureReading a r => Sys2Proof.Machine.execInletPinTemperatureReading a r s
  | .elementTemperatureReading a r => Sys2Proof.Machine.execElementTemperatureReading a r s
  | .railSample a vp vn => Sys2Proof.Machine.execRailSample a vp vn s
  | .zeroCrossing a => Sys2Proof.Machine.execZeroCrossing a s
  | .confirmTimeExpiry a => Sys2Proof.Machine.execConfirmTimeExpiry a s
  | .phaseMinimumElapsed a => Sys2Proof.Machine.execPhaseMinimumElapsed a s
  | .holdTimeout a => Sys2Proof.Machine.execHoldTimeout a s
  | .isocheckTimeout a => Sys2Proof.Machine.execIsocheckTimeout a s
  | .closingCheckExpiry a => Sys2Proof.Machine.execClosingCheckExpiry a s
  | .openingCheckExpiry a => Sys2Proof.Machine.execOpeningCheckExpiry a s
  | .releaseMaxExpiry a => Sys2Proof.Machine.execReleaseMaxExpiry a s
  | .restExpiry a => Sys2Proof.Machine.execRestExpiry a s
  | .holdTimerExpiry a => Sys2Proof.Machine.execHoldTimerExpiry a s
  | .requestExpiry a => Sys2Proof.Machine.execRequestExpiry a s
  | .packHeatRestElapsed a => Sys2Proof.Machine.execPackHeatRestElapsed a s
  | .settleEnd a => Sys2Proof.Machine.execSettleEnd a s
  | .periodExpiry a => Sys2Proof.Machine.execPeriodExpiry a s
  | .timedIntervalEnd a => Sys2Proof.Machine.execTimedIntervalEnd a s
  | .mainsLoss a => Sys2Proof.Machine.execMainsLoss a s

end Sys2Proof.Machine
end

