-- ==== Sys2Proof/Safety.lean ====
section
/-! DEFINITION. What a safe run keeps: the manual's statements about the whole part that hold at every
instant, as predicates of a state, and `overdue`, which a timely sender of timer commands avoids. -/
namespace Sys2Proof.Machine
open Sys2Proof

/-! ## Events (R166) -/

/-- R166: a kind is pending exactly while its count is above 0, its latest occurrence is present only
while it is pending, and it is owed only while pending and routed to notices; the count stops at 255. -/
def KindRecord.ok (r : KindRecord) : Prop :=
  (r.pending = true ↔ 0 < r.count) ∧ (r.pending = true ↔ r.latest.isSome = true)
    ∧ (r.owed = true → r.pending = true ∧ r.route.notifies = true) ∧ r.count ≤ 255

def EvtOk (s : State) : Prop := ∀ k : Fin 14, (s.evt.at k).ok

/-! ## Levels, results and the measurement in flight (R84, R104, R107) -/

/-- R107: the level is FAULT exactly while the latch is set, and each run stops at 255. -/
def LevelRecord.ok (l : LevelRecord) : Prop :=
  (l.level = .fault ↔ l.latch.isSome = true) ∧ l.lowRun ≤ 255 ∧ l.faultRun ≤ 255 ∧ l.goodRun ≤ 255

def LevelOk (s : State) : Prop := s.ism.packLevel.ok ∧ s.ism.heaterLevel.ok

/-- R104: every stored R_iso lies in 0 to 50,000 and is the smaller of Rp and Rn, and every stored
figure is floor(R_iso × 10,000 / v_ref used). -/
def SectionRecord.ok (r : SectionRecord) : Prop :=
  ∀ q, r.result = some q →
    q.rIso ≤ 50000 ∧ q.rIso = min q.rp q.rn ∧ q.figure = q.rIso * 10000 / q.vRef

def ResultsOk (s : State) : Prop := s.ism.pack.ok ∧ s.ism.heater.ok ∧ s.ism.inlet.ok

/-- R84: the SEQUENCER slot names INLET and the HEATER slot HEATER, and so does a measurement for it. -/
def FlightOk (s : State) : Prop :=
  ∀ m, s.ism.flight = some m →
    (m.slot = .sequencer → m.sec = .inlet) ∧ (m.slot = .heater → m.sec = .heater)

/-! ## The heater (R52, R55, R66 to R68) -/

/-- R55, R66: the switch is closed exactly in ON, a level is applied only in ON, and a request stands
exactly outside IDLE. R67, R68: a pack-heat run is active only while a request stands that holds the PACK
source. -/
def HeaterOk (s : State) : Prop :=
  (s.htr.switch = true ↔ s.htr.state = .on) ∧ (s.htr.level ≠ none → s.htr.state = .on)
    ∧ (s.htr.request = none ↔ s.htr.state = .idle)
    ∧ (s.runActive = true → ∃ r, s.htr.request = some r ∧ r.source = .pack)

/-! ## The session (R1, R9, R25, R47) -/

/-- R1, R2, R9: the session context stands exactly from CONNECT to the completion of RELEASE, and the
pending-start slot is filled exactly in WAITING_REST. -/
def SessionOk (s : State) : Prop :=
  (s.seq.ctx.isSome = true ↔ s.seq.state ≠ .idle ∧ s.seq.state ≠ .waitingRest)
    ∧ (s.seq.pendingStart.isSome = true ↔ s.seq.state = .waitingRest)
    ∧ (s.bil.openRec.isSome = true ↔ s.seq.ctx.isSome = true)

/-- R47: outside ENERGY and TAPER the applied setpoint is 0 and the applied grant NONE. -/
def AppliedOk (s : State) : Prop :=
  s.seq.state.delivers = false → s.alc.appliedSet = 0 ∧ s.alc.appliedGrant = none

/-- R18, R22, R25: a feedback check stands only within a session; and the DC contactor command is closed
only in ENERGY, TAPER and RELEASE of an energised DC session, and not once the opening check has begun. -/
def ContactorsOk (s : State) : Prop :=
  (s.seq.check ≠ .none → s.seq.ctx.isSome = true)
    ∧ (s.seq.dccCmd = true →
      (s.seq.state.delivers = true ∨ s.seq.state = .release)
        ∧ (∃ c, s.seq.ctx = some c ∧ c.profile = .dc ∧ c.energised = true)
        ∧ ∀ due, s.seq.check ≠ .opening due)

/-- R157: closed records, plus one for an open session, plus one for a pending start, never exceed 32. -/
def QueueOk (s : State) : Prop :=
  s.bil.queue.length + (if s.seq.ctx.isSome then 1 else 0)
    + (if s.seq.pendingStart.isSome then 1 else 0) ≤ 32

/-! ## The link (R190) and the meter (R128) -/

/-- R190: the seven counts stop at 65,535. -/
def CountsOk (s : State) : Prop :=
  let c := s.lnk.counts
  c.requests ≤ 65535 ∧ c.busy ≤ 65535 ∧ c.overruns ≤ 65535 ∧ c.gapErrors ≤ 65535
    ∧ c.lengthErrors ≤ 65535 ∧ c.checkErrors ≤ 65535 ∧ c.notices ≤ 65535

/-- R128: the residues lie in 0 to 3,599,999. -/
def ResiduesOk (s : State) : Prop :=
  s.mtr.residues.inlet < 3600000 ∧ s.mtr.residues.heater < 3600000 ∧ s.mtr.residues.pack < 3600000

/-! ## Timely senders (log entry 1) -/

/-- A deadline in ms that has passed. -/
def passed (s : State) (d : Option Nat) : Bool :=
  match d with
  | some t => decide (t < s.nowMs)
  | none => false

/-- The deadline of SEQ's feedback check. -/
def checkDeadline : ContactorCheck → Option Nat
  | .closing d => some d
  | .opening d => some d
  | .none | .passed => none

/-- Some timer of the part ran out before the present instant and its command has not come: hold timer,
request expiry, feedback check, settling, period, pending start, TIMED interval, mains watch, gap timer,
or the end of the frame being sent. -/
def overdue (s : State) : Bool :=
  passed s s.alc.offer.hold || passed s (s.htr.request.map (·.expiry))
    || passed s (checkDeadline s.seq.check) || passed s (s.ism.flight.map (·.phaseEnd))
    || passed s s.ism.scan.timer
    || (passed s (s.seq.pendingStart.map (·.expiry)) && !s.lnk.restartPending)
    || (match s.mtr.timing with
        | .timed => decide (s.mtr.intervalStart + Config.timedInterval < s.time)
        | .mains _ last => decide (last + Config.mainsLossTime < s.time))
    || gapDue s
    || (match s.lnk.out with
        | .free => false
        | .sending _ ends _ => decide (ends < s.time))

/-! ## How a statement names a request's outcome -/

/-- What the owner of a request sees: the frame has arrived and is counted as taken (R183). -/
def taken (a : Arrival) (s : State) : State :=
  count (fun c => { c with requests := bump16 c.requests }) (arrive a s)

/-- The part after the owner has changed the state to `s` and handed this reply over: the reply waits
in the slot, and the outbound side takes what comes first (R183, R188). -/
def answered (kind : Byte) (reply : List Byte) (s : State) : State :=
  pump (s.withLnk { s.lnk with slot := some { kind := kind, reply := reply } })

/-! ## Requests as commands, and the bytes of a frame -/

/-- The command a host request is when its frame completes at this arrival. -/
def commandOf (a : Arrival) : Request → Instr
  | .profileSet f => .profileSet a f
  | .seqConfig f => .seqConfig a f
  | .sessionStart f => .sessionStart a f
  | .sessionStop => .sessionStop a
  | .contactorClear => .contactorClear a
  | .offer f => .offer a f
  | .derateSet f => .derateSet a f
  | .heaterConfig f => .heaterConfig a f
  | .heatRequest f => .heatRequest a f
  | .heatCancel => .heatCancel a
  | .isoConfig f => .isoConfig a f
  | .isoMeasure f => .isoMeasure a f
  | .isoStop => .isoStop a
  | .isoResults f => .isoResults a f
  | .isoThresholds f => .isoThresholds a f
  | .isoClear f => .isoClear a f
  | .meterQuery => .meterQuery a
  | .timeSet f => .timeSet a f
  | .accountSet f => .accountSet a f
  | .accountClear f => .accountClear a f
  | .tariffLoad f => .tariffLoad a f
  | .recordPeek => .recordPeek a
  | .recordDrop f => .recordDrop a f
  | .seqBaseSet f => .seqBaseSet a f
  | .routeSet f => .routeSet a f
  | .eventsClear f => .eventsClear a f
  | .status => .status a
  | .restart => .restart a
  | .linkCountsClear => .linkCountsClear a

/-- The bytes of a list arrive one after another, each with the same arrival. -/
def feedBytes (a : Arrival) : List Byte → State → Host.Outcome State Fault Refusal
  | [], s => .next s
  | b :: rest, s =>
    match exec (.linkRxByte a b) s with
    | .next t => feedBytes a rest t
    | .fault f => .fault f
    | .refused r => .refused r

/-! ## Which payloads pass their owner's checks -/

/-- R3: every field of PROFILE_SET that belongs to the named profile lies in its range, the enumerations
in their sets, and none of the four refusals applies. -/
def profileFieldsPass (f : ProfileSetReq) (p : Profile) : Prop :=
  (100 ≤ f.connectMin.toNat ∧ f.connectMin.toNat ≤ 10000)
  ∧ (100 ≤ f.prechargeMin.toNat ∧ f.prechargeMin.toNat ≤ 30000)
  ∧ (1000 ≤ f.holdMax.toNat ∧ f.holdMax.toNat ≤ 120000)
  ∧ f.holdFilter.toNat ≤ 1 ∧ (10 ≤ f.confirmTime.toNat ∧ f.confirmTime.toNat ≤ 500)
  ∧ (f.holdFilter.toNat = 1 →
      f.confirmTime.toNat ≤ f.connectMin.toNat ∧ f.confirmTime.toNat ≤ f.prechargeMin.toNat)
  ∧ f.isocheckEnable.toNat ≤ 1 ∧ f.taperEnable.toNat ≤ 1
  ∧ (1000 ≤ f.taperVoltage.toNat ∧ f.taperVoltage.toNat ≤ 10000)
  ∧ (500 ≤ f.taperStep.toNat ∧ f.taperStep.toNat ≤ 990)
  ∧ (1 ≤ f.endCurrent.toNat ∧ f.endCurrent.toNat < f.maxCurrent.toNat)
  ∧ f.releaseCurrent.toNat ≤ 5000 ∧ (100 ≤ f.releaseMax.toNat ∧ f.releaseMax.toNat ≤ 10000)
  ∧ f.releaseRest.toNat ≤ 60000 ∧ f.maxCurrent.toNat ≤ 5000
  ∧ (1000 ≤ f.maxPower.toNat ∧ f.maxPower.toNat ≤ 350000)
  ∧ (match p with
      | .ac => f.isocheckEnable.toNat = 0
          ∧ (800 ≤ f.obcEfficiency.toNat ∧ f.obcEfficiency.toNat ≤ 990)
          ∧ (f.phaseCount.toNat = 1 ∨ f.phaseCount.toNat = 3)
      | .dc => (1000 ≤ f.isocheckMax.toNat ∧ f.isocheckMax.toNat ≤ 60000)
          ∧ (10 ≤ f.matchWindow.toNat ∧ f.matchWindow.toNat ≤ 500))

/-- R3: the fields both kinds of profile have, as a taken PROFILE_SET writes them. -/
def profileWritten (f : ProfileSetReq) : ProfileCommon :=
  { connectMin := f.connectMin.toNat, prechargeMin := f.prechargeMin.toNat
    holdMax := f.holdMax.toNat
    holdFilter := if f.holdFilter.toNat = 1 then .confirmed else .direct
    confirmTime := f.confirmTime.toNat, isocheckEnable := decide (f.isocheckEnable.toNat = 1)
    taperEnable := decide (f.taperEnable.toNat = 1), taperVoltage := f.taperVoltage.toNat
    taperStep := f.taperStep.toNat, endCurrent := f.endCurrent.toNat
    releaseCurrent := f.releaseCurrent.toNat, releaseMax := f.releaseMax.toNat
    releaseRest := f.releaseRest.toNat, maxCurrent := f.maxCurrent.toNat
    maxPower := f.maxPower.toNat }

/-- R53: the nine fields of HEATER_CONFIG lie in their ranges and element_resume is below element_max. -/
def heaterFieldsPass (f : HeaterConfigReq) : Prop :=
  (300 ≤ f.packHeatMax.toNat ∧ f.packHeatMax.toNat ≤ 2400)
  ∧ (1000 ≤ f.packFloor.toNat ∧ f.packFloor.toNat ≤ 10000)
  ∧ f.heatRest.toNat ≤ 60000 ∧ f.checkAge.toNat ≤ 3600
  ∧ (1 ≤ f.hysteresis.toNat ∧ f.hysteresis.toNat ≤ 5)
  ∧ (60 ≤ f.elementMax.toNat ∧ f.elementMax.toNat ≤ 150)
  ∧ (40 ≤ f.elementResume.toNat ∧ f.elementResume.toNat < f.elementMax.toNat)
  ∧ (20 ≤ f.maxPackTemp.toNat ∧ f.maxPackTemp.toNat ≤ 60)
  ∧ (-40 ≤ f.assumedTemp.toInt ∧ f.assumedTemp.toInt ≤ 20)

/-- R73: the fields of ISO_CONFIG lie in their ranges and sets, first_section not after last_section. -/
def isoFieldsPass (f : IsoConfigReq) : Prop :=
  (f.r0.toNat = 250 ∨ f.r0.toNat = 500 ∨ f.r0.toNat = 1000)
  ∧ (50 ≤ f.settlePack.toNat ∧ f.settlePack.toNat ≤ 5000)
  ∧ (50 ≤ f.settleHeater.toNat ∧ f.settleHeater.toNat ≤ 5000)
  ∧ (50 ≤ f.settleInlet.toNat ∧ f.settleInlet.toNat ≤ 5000)
  ∧ f.settlePackExtra.toNat ≤ 5000
  ∧ (f.samples.toNat = 4 ∨ f.samples.toNat = 8 ∨ f.samples.toNat = 16 ∨ f.samples.toNat = 32)
  ∧ (10 ≤ f.tolerance.toNat ∧ f.tolerance.toNat ≤ 200)
  ∧ (4000 ≤ f.vRef.toNat ∧ f.vRef.toNat ≤ 10000)
  ∧ f.scanMode.toNat ≤ 3 ∧ f.firstSection.toNat ≤ f.lastSection.toNat ∧ f.lastSection.toNat ≤ 2
  ∧ (1 ≤ f.period.toNat ∧ f.period.toNat ≤ 600)

/-- R39: 1 to 8 points, each temperature and limit in its range, the temperatures strictly rising. -/
def pointsPass (points : List (Byte × Half)) : Prop :=
  1 ≤ points.length ∧ points.length ≤ 8
    ∧ (∀ q ∈ points, -40 ≤ q.1.toInt ∧ q.1.toInt ≤ 100 ∧ q.2.toNat ≤ 5000)
    ∧ (points.map fun q => q.1.toInt).Pairwise (· < ·)

/-- R146: 1 to 6 windows, each start and band in its range, the starts strictly rising, and every price
at most 999,999. -/
def tariffPass (f : TariffLoadReq) : Prop :=
  1 ≤ f.windows.length ∧ f.windows.length ≤ 6
    ∧ (∀ w ∈ f.windows, w.1.toNat ≤ 1439 ∧ w.2.toNat ≤ 3)
    ∧ (f.windows.map fun w => w.1.toNat).Pairwise (· < ·)
    ∧ f.price0.toNat ≤ 999999 ∧ f.price1.toNat ≤ 999999 ∧ f.price2.toNat ≤ 999999
    ∧ f.price3.toNat ≤ 999999

end Sys2Proof.Machine
end

