-- ==== Sys2Proof/WellFormed.lean ====
section
/-! DEFINITION. Which commands can arrive: a counted list fits in a frame, and a voltage lies in the
range of the manual's unit table ("Units and number conventions": 0 to 10,000 dV). Request fields need
no check (their bit widths are their ranges on the link), and neither do the readings the chapters
clamp or exclude themselves (pilot offer, temperatures, rail samples, channel means). -/
namespace Sys2Proof

/-- R197: 1 + 3 × count bytes, at most 96. -/
def DerateSetReq.wellFormed (f : DerateSetReq) : Bool :=
  1 + 3 * f.points.length ≤ Config.maxPayload

/-- R197: 17 + 3 × count bytes, at most 96. -/
def TariffLoadReq.wellFormed (f : TariffLoadReq) : Bool :=
  17 + 3 * f.windows.length ≤ Config.maxPayload

def Request.wellFormed : Request → Bool
  | .derateSet f => f.wellFormed
  | .tariffLoad f => f.wellFormed
  | .profileSet _ | .seqConfig _ | .sessionStart _ | .sessionStop | .contactorClear | .offer _
  | .heaterConfig _ | .heatRequest _ | .heatCancel | .isoConfig _ | .isoMeasure _ | .isoStop
  | .isoResults _ | .isoThresholds _ | .isoClear _ | .meterQuery | .timeSet _ | .accountSet _
  | .accountClear _ | .recordPeek | .recordDrop _ | .seqBaseSet _ | .routeSet _ | .eventsClear _
  | .status | .restart | .linkCountsClear => true

/-- A voltage reading is within the manual's range for a voltage. -/
def voltageInRange (v : Nat) : Bool := v ≤ Config.maxVoltage

def Instr.wellFormed (i : Instr) : Bool :=
  match i with
  | .packVoltageReading _ v => voltageInRange v
  | .dcInletVoltageReading _ v => voltageInRange v
  | .acLineVoltageReading _ _ v => voltageInRange v
  | i => match i.request? with
    | some r => r.wellFormed
    | none => true

end Sys2Proof
end

