-- ==== Sys2Proof/Certificates/Slice0/Obligations.lean ====
section
/-! DEFINITION. The statements for the provers.

`taken a s` is what the owner of a request sees when its frame completes at arrival `a`; `answered k reply t`
puts the reply in the slot and lets the outbound side take its next item (log entry 7); `finish s` ends any
other arrival, which began in `s`, with the arbiter (log entry 8) and the outbound side. A timer command is tested against its
deadline in the state (log entry 1). `slotReady s` says that no request is in the way: no BUSY is owed, the
slot is empty and no warm restart is pending. -/
open Sys2Proof Sys2Proof.Machine

/-! ## Configuration -/

/-- R3 (PROFILE_SET): a profile byte outside its set is RANGE at once; the profile of the open
session is STATE; fields that fail are RANGE; otherwise the named profile is written and the other
profile's own fields are not. Nothing else of the part changes but the link's own taking of the
request. -/
def Obligations.ProfileSetWritesTheNamedProfile : Prop :=
  ∀ (a : Arrival) (f : ProfileSetReq) (s : State), slotReady s = true →
    (2 ≤ f.profile.toNat →
      exec (.profileSet a f) s = .next (answered 0x10 [4] (taken a s)))
    ∧ ∀ p : Profile, f.profile.toNat = p.code →
      ((s.ctxProfile? = some p →
          exec (.profileSet a f) s = .next (answered 0x10 [3] (taken a s)))
      ∧ (s.ctxProfile? ≠ some p → ¬ profileFieldsPass f p →
          exec (.profileSet a f) s = .next (answered 0x10 [4] (taken a s)))
      ∧ (s.ctxProfile? ≠ some p → profileFieldsPass f p →
          exec (.profileSet a f) s = .next (answered 0x10 [0] ((taken a s).withSeq
            (match p with
              | .ac => { s.seq with
                  ac := profileWritten f
                  acOnly := { obcEfficiency := f.obcEfficiency.toNat
                              phaseCount := f.phaseCount.toNat } }
              | .dc => { s.seq with
                  dc := profileWritten f
                  dcOnly := { isocheckMax := f.isocheckMax.toNat
                              matchWindow := f.matchWindow.toNat } })))))

/-- R5 (SEQ_CONFIG): taken in every sequencer state; all three values or none.

R53, R61 (HEATER_CONFIG): refused with STATE in ON and with RANGE when a field fails, with nothing
changed; otherwise all nine values are written, and the taking is an evaluation of the request.

R105 (ISO_THRESHOLDS): both thresholds or neither; a load judges nothing by itself. -/
def Obligations.ConfigurationIsWrittenWholeOrNotAtAll : Prop :=
  (∀ (a : Arrival) (f : SeqConfigReq) (s : State), slotReady s = true →
     exec (.seqConfig a f) s = .next
       (if f.switchRest.toNat ≤ 60000 ∧ f.turnRest.toNat ≤ 60000
           ∧ 50 ≤ f.contactorCheck.toNat ∧ f.contactorCheck.toNat ≤ 500 then
         answered 0x11 [0] ((taken a s).withSeq { s.seq with
           settings := { switchRest := f.switchRest.toNat, turnRest := f.turnRest.toNat
                         contactorCheck := f.contactorCheck.toNat } })
       else answered 0x11 [4] (taken a s)))
  ∧ (∀ (a : Arrival) (f : HeaterConfigReq) (s : State), slotReady s = true →
       (s.htr.state = .on →
         exec (.heaterConfig a f) s = .next (answered 0x28 [3] (taken a s)))
       ∧ (s.htr.state ≠ .on → ¬ heaterFieldsPass f →
         exec (.heaterConfig a f) s = .next (answered 0x28 [4] (taken a s)))
       ∧ (s.htr.state ≠ .on → heaterFieldsPass f →
         exec (.heaterConfig a f) s = .next (answered 0x28 [0]
           (arbiter (taken a s) (htrEvaluate ((taken a s).withHtr { s.htr with
             settings :=
               { packHeatMax := f.packHeatMax.toNat, packFloor := f.packFloor.toNat
                 heatRest := f.heatRest.toNat, checkAge := f.checkAge.toNat
                 hysteresis := f.hysteresis.toNat, elementMax := f.elementMax.toNat
                 elementResume := f.elementResume.toNat, maxPackTemp := f.maxPackTemp.toNat
                 assumedTemp := f.assumedTemp.toInt } }))))))
  ∧ (∀ (a : Arrival) (f : IsoThresholdsReq) (s : State), slotReady s = true →
       exec (.isoThresholds a f) s = .next
         (if 100 ≤ f.warn.toNat ∧ f.warn.toNat ≤ 2000 ∧ 50 ≤ f.fault.toNat ∧ f.fault.toNat ≤ 1999
             ∧ f.fault.toNat < f.warn.toNat then
           answered 0x34 [0] ((taken a s).withIsm
             { s.ism with warn := f.warn.toNat, fault := f.fault.toNat })
         else answered 0x34 [4] (taken a s)))

/-- R73 (ISO_CONFIG): STATE outside mode OFF or with a measurement in flight; RANGE when a field
fails; otherwise the settings are written, and the scan of R88 to R90 begins: PERIODIC starts its
timer at the write, CONTINUOUS starts a pass, OFF and SINGLE start none. -/
def Obligations.IsoConfigWritesAndBegins : Prop :=
  ∀ (a : Arrival) (f : IsoConfigReq) (s : State), slotReady s = true →
    ((s.ism.scan.mode ≠ .off ∨ s.ism.flight.isSome = true) →
      exec (.isoConfig a f) s = .next (answered 0x30 [3] (taken a s)))
    ∧ (s.ism.scan.mode = .off → s.ism.flight = none → ¬ isoFieldsPass f →
      exec (.isoConfig a f) s = .next (answered 0x30 [4] (taken a s)))
    ∧ (s.ism.scan.mode = .off → s.ism.flight = none → isoFieldsPass f →
      ∃ mode first last, scanModeOf f.scanMode = some mode ∧ sectionOf f.firstSection = some first
        ∧ sectionOf f.lastSection = some last
        ∧ exec (.isoConfig a f) s = .next (answered 0x30 [0] (arbiter (taken a s) ((taken a s).withIsm
          { s.ism with
            settings :=
              { r0 := f.r0.toNat, settlePack := f.settlePack.toNat
                settleHeater := f.settleHeater.toNat, settleInlet := f.settleInlet.toNat
                settlePackExtra := f.settlePackExtra.toNat, samples := f.samples.toNat
                tolerance := f.tolerance.toNat, vRef := f.vRef.toNat }
            scan :=
              { mode := mode, first := first, last := last, period := f.period.toNat
                busy := decide (mode = .continuous)
                step := if mode = .continuous then some first else none
                measured := false
                timer := if mode = .periodic then
                  some ((s.time + a.elapsed) / 1000 + f.period.toNat * 1000) else none } }))))

/-- R27 (CONTACTOR_CLEAR): in IDLE with DCC_FB open the latch and the lock-held flag are cleared,
and a held lock is disengaged; otherwise STATE and nothing changes. -/
def Obligations.ContactorClearInIdleWithFeedbackOpen : Prop :=
  ∀ (a : Arrival) (s : State), slotReady s = true →
    exec (.contactorClear a) s = .next
      (if s.seq.state = .idle ∧ s.inputs.dccFb = false then
        answered 0x14 [0] ((taken a s).withSeq { s.seq with
          faultLatch := false, lockHeld := false
          lockCmd := s.seq.lockCmd && !s.seq.lockHeld })
      else answered 0x14 [3] (taken a s))

/-- R3, R5, R39, R53, R73, R92, R105, R138, R141, R142, R146, R148, R173, R30: the host's
configuration is written by its own request alone. Whatever command runs (a byte of the link may
complete any request, and a cold start resets all), every other setting, table entry, route and the
clock's setting stand; the scan mode also falls to OFF by ISO_STOP; a pending tariff table becomes
the active one without a load; and the offer record moves only by OFFER, a pilot reading, its hold
timer, an opening session (SESSION_START, REST_EXPIRY) and a warm restart (OUTBOUND_FRAME_SENT).

R41, R60, R71 and the signal list: each input pin and each stored reading follows its own arrivals
alone; a cold start keeps the pins. Log entries 5, 23. -/
def Obligations.ConfigurationAndPinsChangeOnlyByTheirCommands : Prop :=
  (∀ (c : Instr) (s t : State), exec c s = .next t →
     (∀ a b, c ≠ .linkRxByte a b) → (∀ a, c ≠ .coldStart a) →
     ((∀ a f, c ≠ .profileSet a f) → t.seq.ac = s.seq.ac ∧ t.seq.acOnly = s.seq.acOnly
         ∧ t.seq.dc = s.seq.dc ∧ t.seq.dcOnly = s.seq.dcOnly)
     ∧ ((∀ a f, c ≠ .seqConfig a f) → t.seq.settings = s.seq.settings)
     ∧ ((∀ a f, c ≠ .derateSet a f) → t.alc.derate = s.alc.derate)
     ∧ ((∀ a f, c ≠ .heaterConfig a f) → t.htr.settings = s.htr.settings)
     ∧ ((∀ a f, c ≠ .isoConfig a f) → t.ism.settings = s.ism.settings
         ∧ t.ism.scan.first = s.ism.scan.first ∧ t.ism.scan.last = s.ism.scan.last
         ∧ t.ism.scan.period = s.ism.scan.period
         ∧ ((∀ a, c ≠ .isoStop a) → t.ism.scan.mode = s.ism.scan.mode))
     ∧ ((∀ a f, c ≠ .isoThresholds a f) → t.ism.warn = s.ism.warn ∧ t.ism.fault = s.ism.fault)
     ∧ ((∀ a f, c ≠ .timeSet a f) → t.bil.clock = s.bil.clock)
     ∧ ((∀ a f, c ≠ .accountSet a f) → (∀ a f, c ≠ .accountClear a f) →
         t.bil.accounts = s.bil.accounts)
     ∧ ((∀ a f, c ≠ .routeSet a f) → ∀ k : Fin 14, (t.evt.at k).route = (s.evt.at k).route)
     ∧ ((∀ a f, c ≠ .tariffLoad a f) →
         (t.bil.active = s.bil.active ∧ t.bil.pendingTariff = s.bil.pendingTariff)
         ∨ ∃ q, s.bil.pendingTariff = some q ∧ t.bil.active = q ∧ t.bil.pendingTariff = none)
     ∧ ((∀ a f, c ≠ .offer a f) → (∀ a v, c ≠ .pilotOfferReading a v) →
         (∀ a, c ≠ .holdTimerExpiry a) → (∀ a f, c ≠ .sessionStart a f) → (∀ a, c ≠ .restExpiry a) →
         (∀ a, c ≠ .outboundFrameSent a) → t.alc.offer = s.alc.offer))
  ∧ (∀ (c : Instr) (s t : State), exec c s = .next t →
       ((∀ a b, c ≠ .plugChange a b) → t.inputs.plug = s.inputs.plug)
       ∧ ((∀ a b, c ≠ .lockFbChange a b) → t.inputs.lockFb = s.inputs.lockFb)
       ∧ ((∀ a b, c ≠ .dccFbChange a b) → t.inputs.dccFb = s.inputs.dccFb)
       ∧ ((∀ a b, c ≠ .obcRdyChange a b) → t.inputs.obcRdy = s.inputs.obcRdy)
       ∧ ((∀ a b, c ≠ .packLiveChange a b) → t.inputs.packLive = s.inputs.packLive)
       ∧ ((∀ a, c ≠ .coldStart a) →
         ((∀ a v, c ≠ .packVoltageReading a v) → t.mfe.packVoltage = s.mfe.packVoltage)
         ∧ ((∀ a v, c ≠ .dcInletVoltageReading a v) → t.mfe.dcInletVoltage = s.mfe.dcInletVoltage)
         ∧ ((∀ a n v, c ≠ .acLineVoltageReading a n v) → t.mfe.lineVoltage = s.mfe.lineVoltage)
         ∧ ((∀ a n r, c ≠ .packTemperatureReading a n r) → t.alc.sensors = s.alc.sensors)
         ∧ ((∀ a r, c ≠ .inletPinTemperatureReading a r) → t.alc.inletPin = s.alc.inletPin)
         ∧ ((∀ a r, c ≠ .elementTemperatureReading a r) →
             t.htr.element = s.htr.element ∧ t.htr.lock = s.htr.lock)))

/-- R27, R109, R112: the contactor fault latch and the held lock are cleared by CONTACTOR_CLEAR
alone, and a FAULT level by ISO_CLEAR alone; no other command but a cold start releases one (a byte
of the link may complete the request).

R148, R157, R161, R163: a closed record is never altered and leaves the queue only at its front, by
RECORD_DROP; a record joins at the end, one at a time, with the number of the session that was open;
and the session counter moves only by an opening, by one, or by SEQ_BASE_SET. Log entry 5. -/
def Obligations.LatchesAndRecordsStandUntilTheirOwnRequest : Prop :=
  (∀ (c : Instr) (s t : State), exec c s = .next t →
     (∀ a b, c ≠ .linkRxByte a b) → (∀ a, c ≠ .coldStart a) →
     ((∀ a, c ≠ .contactorClear a) →
       (s.seq.faultLatch = true → t.seq.faultLatch = true)
       ∧ (s.seq.lockHeld = true → t.seq.lockHeld = true))
     ∧ ((∀ a f, c ≠ .isoClear a f) →
       (s.ism.packLevel.level = .fault → t.ism.packLevel.level = .fault
         ∧ t.ism.packLevel.latch = s.ism.packLevel.latch)
       ∧ (s.ism.heaterLevel.level = .fault → t.ism.heaterLevel.level = .fault
         ∧ t.ism.heaterLevel.latch = s.ism.heaterLevel.latch)))
  ∧ (∀ (c : Instr) (s t : State), exec c s = .next t →
       (∀ a b, c ≠ .linkRxByte a b) → (∀ a, c ≠ .coldStart a) →
       ((∀ a f, c ≠ .recordDrop a f) → t.bil.queue = s.bil.queue
           ∨ ∃ r q, s.bil.openRec = some r ∧ t.bil.queue = s.bil.queue ++ [q]
             ∧ q.sequence = r.sequence ∧ q.account = r.account ∧ q.profile = r.profile)
       ∧ ((∃ a f, c = .recordDrop a f) → t.bil.queue = s.bil.queue ∨ t.bil.queue = s.bil.queue.tail)
       ∧ ((∀ a f, c ≠ .seqBaseSet a f) → t.bil.counter = s.bil.counter
           ∨ (t.bil.counter = s.bil.counter + 1 ∧ t.seq.state = .connect
             ∧ ((∃ a f, c = .sessionStart a f) ∨ ∃ a, c = .restExpiry a))))

/-! ## Offers, the derate table and the allocation -/

/-- R32, R33 (OFFER): while the record is STALE an offer with a non-zero limit is LATCHED and
changes nothing; three limits of 0 empty the record in every state of it; otherwise the limits are
written as clamped, the source becomes HOST, the record LIVE, and the hold timer starts afresh. The
allocation the offer causes is complete before the reply is formed.

Section 10.6: the OFFER reply is the status, the offer state and source, P_avail, I_acc, the target
and the applied setpoint, and the target and the applied heater grant. Log entry 22. -/
def Obligations.OfferWritesEmptiesOrIsLatched : Prop :=
  (∀ (a : Arrival) (f : OfferReq) (s : State), slotReady s = true →
     (f.currentLimit = 0 ∧ f.voltageLimit = 0 ∧ f.powerLimit = 0 →
       ∃ t, t = allocate ((taken a s).withAlc { s.alc with
             offer := { state := .empty, source := .none, iOff := 0, vOff := .upTo 0, pOff := .upTo 0
                        hold := none } })
         ∧ exec (.offer a f) s = .next (answered 0x20 (offerReply .ok t) t))
     ∧ (¬ (f.currentLimit = 0 ∧ f.voltageLimit = 0 ∧ f.powerLimit = 0) →
         s.alc.offer.state = .stale →
       exec (.offer a f) s = .next (answered 0x20 (offerReply .latched (taken a s)) (taken a s)))
     ∧ (¬ (f.currentLimit = 0 ∧ f.voltageLimit = 0 ∧ f.powerLimit = 0) →
         s.alc.offer.state ≠ .stale →
       ∃ t, t = allocate ((taken a s).withAlc { s.alc with
             offer :=
               { state := .live, source := .host, iOff := min 5000 f.currentLimit.toNat
                 vOff := .upTo (min 10000 f.voltageLimit.toNat)
                 pOff := .upTo (min 350000 f.powerLimit.toNat)
                 hold := some ((s.time + a.elapsed) / 1000
                   + (if f.holdTime.toNat < 100 then 100
                      else if 10000 < f.holdTime.toNat then 10000 else f.holdTime.toNat)) } })
         ∧ exec (.offer a f) s = .next (answered 0x20
             (offerReply
               (if f.currentLimit.toNat ≤ 5000 ∧ f.voltageLimit.toNat ≤ 10000
                   ∧ f.powerLimit.toNat ≤ 350000 ∧ 100 ≤ f.holdTime.toNat ∧ f.holdTime.toNat ≤ 10000
                 then .ok else .clamped) t) t)))
  ∧ (∀ (st : Status) (s : State),
       let l := s.alc
       offerReply st s = putU8 st.code.toNat ++ putU8 l.offer.state.code ++ putU8 l.offer.source.code
           ++ putU32 l.pAvail ++ putU16 l.iAcc ++ putU16 l.targetSet ++ putU16 l.appliedSet
           ++ putU8 (levelCode l.targetGrant) ++ putU8 (levelCode l.appliedGrant)
         ∧ (offerReply st s).length = 15)

/-- R39 (DERATE_SET): points that fail are RANGE and the table stays; otherwise the whole table is
replaced and the allocation follows; either reply carries I_acc of the table then in force.

R38: I_acc is the limit of the highest point at or below the temperature, and 0 below the first, for
every table whose temperatures rise strictly. Log entry 37. -/
def Obligations.DerateSetReplacesAStepFunction : Prop :=
  (∀ (a : Arrival) (f : DerateSetReq) (s : State), slotReady s = true →
     let iAcc (w : State) := lookupDerate w.alc.derate (w.alc.tMin.getD w.htr.settings.assumedTemp)
     (¬ pointsPass f.points →
       exec (.derateSet a f) s = .next (answered 0x21 (4 :: putU16 (iAcc s)) (taken a s)))
     ∧ (pointsPass f.points →
       ∃ t, t = allocate ((taken a s).withAlc
             { s.alc with derate := f.points.map fun q => (q.1.toInt, q.2.toNat) })
         ∧ exec (.derateSet a f) s = .next (answered 0x21 (0 :: putU16 (iAcc t)) t)))
  ∧ (∀ (table : List (Int × Nat)) (t : Int), (table.map (·.1)).Pairwise (· < ·) →
       (∀ p ∈ table, p.1 ≤ t → (∀ q ∈ table, q.1 ≤ t → q.1 ≤ p.1) → lookupDerate table t = p.2)
       ∧ ((∀ p ∈ table, t < p.1) → lookupDerate table t = 0))

/-- R31, R41, R42 (PILOT_OFFER reading, AC_LINE_VOLTAGE reading): in an AC session a pilot reading
is a LINE write, at most 5,000 dA with no other limit, unless the record is STALE, and either
reading is an allocation event. Outside an AC session a pilot reading changes nothing and a line
voltage is kept.

R34, R41, R42, R14 (HOLD_TIMER_EXPIRY): when the hold time has run out the record becomes STALE with
its limits kept, OFFER_STALE is raised with them, every allocated figure falls to 0, and a session
in ENERGY or TAPER is released with the cause OFFER_STALE. A timer that is not due does nothing. Log
entries 1, 10, 30. -/
def Obligations.LineReadingsAndTheHoldTimerMoveTheOffer : Prop :=
  (∀ (a : Arrival) (phase : Fin 3) (v : Nat) (s : State),
     let line := { s.mfe with lineVoltage := s.mfe.lineVoltage.set phase v, means := a.means }
     (s.acSession = true → s.alc.offer.state ≠ .stale → exec (.pilotOfferReading a v) s
       = .next (pump (allocate ((arrive a s).withAlc { s.alc with
           offer := { state := .live, source := .line, iOff := min v 5000, vOff := .unlimited
                      pOff := .unlimited, hold := none } }))))
     ∧ ((s.acSession = false ∨ s.alc.offer.state = .stale) →
       exec (.pilotOfferReading a v) s = .next (pump (arrive a s)))
     ∧ (s.acSession = true →
       exec (.acLineVoltageReading a phase v) s = .next (pump (allocate ((arrive a s).withMfe line))))
     ∧ (s.acSession = false →
       exec (.acLineVoltageReading a phase v) s = .next (pump ((arrive a s).withMfe line))))
  ∧ (∀ (a : Arrival) (s : State),
       let now := (s.time + a.elapsed) / 1000
       (∀ due, s.alc.offer.hold = some due → due ≤ now →
         ∃ t, exec (.holdTimerExpiry a) s = .next t
           ∧ t.alc.offer = { s.alc.offer with state := .stale, hold := none }
           ∧ (t.evt.at 4).latest = some (now,
               .offerStale s.alc.offer.source s.alc.offer.iOff s.alc.offer.vOff s.alc.offer.pOff)
           ∧ t.alc.pAvail = 0 ∧ t.alc.targetSet = 0 ∧ t.alc.appliedSet = 0
           ∧ t.alc.targetGrant = none ∧ t.alc.appliedGrant = none
           ∧ (s.seq.state.delivers = false → t.seq = s.seq)
           ∧ (∀ c, s.seq.state.delivers = true → s.seq.ctx = some c → c.energised = true →
               t.seq.state = .release
               ∧ t.seq.ctx = some { c with endCause := some .offerStale, phaseEntry := now, rawChange := none }))
       ∧ ((s.alc.offer.hold = none ∨ ∃ due, s.alc.offer.hold = some due ∧ now < due) →
         exec (.holdTimerExpiry a) s = .next (finish s (arrive a s))))

/-- R35, R36, R38, R41, R61 (PACK_TEMPERATURE reading): a marked reading from −40 to 100 °C is
taken; any other leaves the value and clears the valid flag, with SENSOR_FAULT when the sensor was
valid. The allocation follows on the sensors as they then stand, with I_acc at the present T_min or
at assumed_temp; HTR evaluates when T_min or T_max changed.

R36: T_min and T_max are the least and the greatest value of the valid sensors, and UNKNOWN when
none is valid. Log entries 14, 36. -/
def Obligations.APackTemperatureIsTakenOrExcluded : Prop :=
  (∀ (a : Arrival) (sensor : Fin 4) (r : Reading) (s : State),
     let old := s.alc.sensors[sensor]
     let valid := r.marked = true ∧ -40 ≤ r.value ∧ r.value ≤ 100
     let after : Sensor := if valid then { value := r.value, valid := true } else { old with valid := false }
     let seen := (arrive a s).withAlc { s.alc with sensors := s.alc.sensors.set sensor after }
     let w := if old.valid = true ∧ ¬ valid then
         raise (.sensorFault (.pack sensor) (if r.marked then .outOfRange else .markedInvalid)) seen
       else seen
     let u := allocate w
     exec (.packTemperatureReading a sensor r) s = .next (finish s
         (if u.alc.tMin = s.alc.tMin ∧ u.alc.tMax = s.alc.tMax then u else htrEvaluate u))
       ∧ u.alc.sensors = s.alc.sensors.set sensor after
       ∧ (old.valid = true → ¬ valid → u.evt = s.evt.raise ((s.time + a.elapsed) / 1000)
           (.sensorFault (.pack sensor) (if r.marked then .outOfRange else .markedInvalid)))
       ∧ ((old.valid = false ∨ valid) → u.evt = s.evt)
       ∧ u.alc.iAcc = lookupDerate s.alc.derate (u.alc.tMin.getD s.htr.settings.assumedTemp)
       ∧ u.seq = s.seq ∧ u.ism = s.ism ∧ u.mtr = s.mtr ∧ u.bil = s.bil ∧ u.lnk = s.lnk)
  ∧ (∀ a : Alc,
       ((∀ i : Fin 4, a.sensors[i].valid = false) → a.tMin = none ∧ a.tMax = none)
       ∧ (∀ i : Fin 4, a.sensors[i].valid = true →
         ∃ lo hi, a.tMin = some lo ∧ a.tMax = some hi
           ∧ lo ≤ a.sensors[i].value ∧ a.sensors[i].value ≤ hi
           ∧ (∃ j : Fin 4, a.sensors[j].valid = true ∧ a.sensors[j].value = lo)
           ∧ (∃ j : Fin 4, a.sensors[j].valid = true ∧ a.sensors[j].value = hi)))

/-- R37, R41, R42, R14 (INLET_PIN_TEMPERATURE reading): the value and its validity are taken, with
SENSOR_FAULT when the sensor turns invalid, and the allocation follows: P_avail is the lower of the
offered power and max_power times the inlet factor, which is 1,000 to 70 °C, falls 50 a degree to 0
at 90 °C, and is 500 while invalid; a valid 90 °C or more ends an open phase with the cause
INLET_HOT. Log entries 14, 36. -/
def Obligations.AHotInletPinReducesThenReleases : Prop :=
  ∀ (a : Arrival) (r : Reading) (s : State),
    let valid := r.marked = true ∧ -40 ≤ r.value ∧ r.value ≤ 150
    let seen := (arrive a s).withAlc
      { s.alc with inletPin := { value := r.value, valid := decide valid } }
    let w := if s.alc.inletPin.valid = true ∧ ¬ valid then
        raise (.sensorFault .inletPin (if r.marked then .outOfRange else .markedInvalid)) seen
      else seen
    let u := allocate w
    exec (.inletPinTemperatureReading a r) s = .next (finish s
        (if valid ∧ 90 ≤ r.value ∧ s.seq.state.isOpenPhase then enterRelease .inletHot u else u))
      ∧ (¬ valid → w.alc.factor = 500)
      ∧ (valid → r.value ≤ 70 → w.alc.factor = 1000)
      ∧ (valid → 70 < r.value → r.value < 90 → (w.alc.factor : Int) = (90 - r.value) * 50)
      ∧ (valid → 90 ≤ r.value → w.alc.factor = 0)
      ∧ (∀ c, s.seq.ctx = some c →
        let volts := s.mfe.lineVoltage
        let line := if s.seq.acOnly.phaseCount = 3 then min volts[0] (min volts[1] volts[2])
          else volts[0]
        let dcPower := s.alc.offer.iOff * s.mfe.packVoltage / 100
        let offered := match c.profile, s.alc.offer.pOff with
          | .ac, _ => s.seq.acOnly.phaseCount * line * s.alc.offer.iOff / 100
              * s.seq.acOnly.obcEfficiency / 1000
          | .dc, .upTo n => min dcPower n
          | .dc, .unlimited => dcPower
        u.alc.pAvail = if s.alc.offer.state = .live then
          min offered (s.seq.common c.profile).maxPower * w.alc.factor / 1000 else 0)
      ∧ (s.seq.ctx = none → u.alc.pAvail = 0)
      ∧ u.seq = s.seq ∧ u.ism = s.ism ∧ u.bil = s.bil ∧ u.lnk = s.lnk ∧ u.evt = w.evt

/-- R41, R19, R20, R48, R60 (PACK_VOLTAGE reading, ENERGY and TAPER): the reading is taken and the
allocation follows. In ENERGY a voltage at or above taper_voltage starts TAPER with the ceiling at
the applied setpoint, or with the taper disabled releases COMPLETE; in TAPER a voltage above it
reduces the ceiling by taper_step and releases COMPLETE once the ceiling is below end_current. HTR
evaluates last.

R41, R60 (PACK_VOLTAGE reading outside ENERGY, TAPER and PRECHARGE): the reading is taken, the
allocation follows, and HTR evaluates, with or without a session. In IDLE a voltage below pack_floor
takes the PACK source from the request that holds it: HTR enters PENDING, a closed switch opens, and
an active run ends with the cause SOURCE_LOST, or ELEMENT while the element lock is set. -/
def Obligations.APackVoltageDrivesTheTaper : Prop :=
  (∀ (a : Arrival) (v : Nat) (s : State) (c : SessionContext),
     s.seq.ctx = some c →
     let p := s.seq.common c.profile
     let u := allocate ((arrive a s).withMfe
       { (arrive a s).mfe with packVoltage := v })
     let done (t : State) := exec (.packVoltageReading a v) s = .next (finish s (htrEvaluate t))
     (s.seq.state = .energy → v < p.taperVoltage → done u)
     ∧ (s.seq.state = .energy → p.taperVoltage ≤ v → p.taperEnable = false →
       done (enterRelease .complete u))
     ∧ (s.seq.state = .energy → p.taperVoltage ≤ v → p.taperEnable = true →
       ∃ t, done t ∧ t.seq.state = .taper ∧ t.alc.ceiling = some u.alc.appliedSet
         ∧ (t.evt.at 7).latest = some ((s.time + a.elapsed) / 1000, .sessionPhase .taper none))
     ∧ (s.seq.state = .taper → v ≤ p.taperVoltage → done u)
     ∧ (s.seq.state = .taper → p.taperVoltage < v →
       let ceiling := u.alc.ceiling.getD 0 * p.taperStep / 1000
       let w := allocate (u.withAlc { u.alc with ceiling := some ceiling })
       done (if ceiling < p.endCurrent then enterRelease .complete w else w)))
  ∧ (∀ (a : Arrival) (v : Nat) (s : State),
       let now := (s.time + a.elapsed) / 1000
       let u := allocate ((arrive a s).withMfe { (arrive a s).mfe with packVoltage := v })
       let quiet := s.seq.ctx = none
         ∨ (s.seq.state ≠ .energy ∧ s.seq.state ≠ .taper ∧ s.seq.state ≠ .precharge)
       (quiet → exec (.packVoltageReading a v) s = .next (finish s (htrEvaluate u)))
       ∧ (∀ r, s.seq.state = .idle → s.htr.request = some r → r.source = .pack →
           s.htr.state ≠ .pending → v < s.htr.settings.packFloor →
         ∃ t, exec (.packVoltageReading a v) s = .next (finish s t)
           ∧ t.htr.state = .pending ∧ t.htr.request = some { r with source := .none }
           ∧ t.htr.level = none ∧ (s.htr.state = .on → t.htr.switch = false)
           ∧ (s.runActive = true → ∃ run, t.htr.run = some run
             ∧ run.ended = some (now, if s.htr.lock then .element else .sourceLost)
             ∧ (t.evt.at 8).latest = some (now, .heatState .pending .none none none (some run))
             ∧ t.seq.rest = { s.seq.rest with kind := .packHeat, endInstant := now })))

/-- R41 to R47, R49: the figures an allocation leaves while a session is open. I_acc is read from
the derate table; P_avail from the offer, through the profile, max_power and the inlet factor;
P_avail is split between heater and charge by the policy when the heater counts; the target setpoint
is what P_chg gives at the pack voltage, within I_acc, max_current, the taper ceiling and the
station's current, or 0; and the targets are applied in ENERGY and TAPER, a rise only without a
quiet window. With no session open P_avail is 0 and nothing is allocated, and I_acc is read all the
same.

R42, R44 to R47: whatever the state, the heater's grant and the charge power together stay within
P_avail, and the setpoint stays within the charge power, I_acc, max_current, the station's offer and
the taper ceiling; it is 0 below 1,000 dV of pack voltage and where a DC station's voltage limit is
reached; and the grant is no higher than the level the request names.

R44, R52: a grant is the highest level, no higher than the one requested, whose power fits; NONE
when not even the lowest fits.

R49, R50: while the quiet window is open no allocation raises the applied setpoint or grant, and
when it closes in ENERGY or TAPER the targets held are applied. -/
def Obligations.TheAllocationStaysWithinEveryLimit : Prop :=
  (∀ s : State,
     let t := (allocate s).alc
     let o := s.alc.offer
     let v := s.mfe.packVoltage
     let phase := s.mfe.lineVoltage
     let line := if s.seq.acOnly.phaseCount = 3 then min phase[0] (min phase[1] phase[2]) else phase[0]
     let dcPower := o.iOff * v / 100
     let applies (q : SeqState) := q = .energy ∨ q = .taper
     t.iAcc = lookupDerate s.alc.derate (s.alc.tMin.getD s.htr.settings.assumedTemp)
     ∧ (s.seq.ctx = none → t.pAvail = 0 ∧ t.targetSet = 0 ∧ t.appliedSet = 0 ∧ t.targetGrant = none
         ∧ t.appliedGrant = none)
     ∧ ∀ c, s.seq.ctx = some c →
       let p := s.seq.common c.profile
       let offered := match c.profile, o.pOff with
         | .ac, _ =>
           s.seq.acOnly.phaseCount * line * o.iOff / 100 * s.seq.acOnly.obcEfficiency / 1000
         | .dc, .upTo n => min dcPower n
         | .dc, .unlimited => dcPower
       let pAcc := t.iAcc * v / 100
       let blocked := c.profile = .dc ∧ ∃ n, o.vOff = .upTo n ∧ n ≤ v
       t.pAvail = (if o.state = .live then min offered p.maxPower * s.alc.factor / 1000 else 0)
       ∧ (∃ pChg,
         ((s.htr.state ≠ .on ∨ ∀ r, s.htr.request = some r → r.source ≠ .inlet) →
           t.targetGrant = none ∧ pChg = min t.pAvail pAcc)
         ∧ (∀ r, s.htr.state = .on → s.htr.request = some r → r.source = .inlet →
           (c.policy = .heatFirst → t.targetGrant = grant r.level t.pAvail
             ∧ pChg = min (t.pAvail - levelPower t.targetGrant) pAcc)
           ∧ (c.policy = .chargeFirst → pChg = min t.pAvail pAcc
             ∧ t.targetGrant = grant r.level (t.pAvail - pChg)))
         ∧ (1000 ≤ v → ¬ blocked →
           let i := min (pChg * 100 / v) (min t.iAcc p.maxCurrent)
           let i := match s.alc.ceiling with
             | some ceiling => min i ceiling
             | none => i
           t.targetSet = if c.profile = .dc then min i o.iOff else i))
       ∧ (v < 1000 ∨ blocked → t.targetSet = 0)
       ∧ (¬ applies s.seq.state → t.appliedSet = 0 ∧ t.appliedGrant = none)
       ∧ (applies s.seq.state →
         t.appliedSet = (if s.alc.quiet = true ∧ s.alc.appliedSet < t.targetSet then s.alc.appliedSet
           else t.targetSet)
         ∧ t.appliedGrant = if s.alc.quiet = true
             ∧ levelCode s.alc.appliedGrant < levelCode t.targetGrant then s.alc.appliedGrant
           else t.targetGrant))
  ∧ (∀ (s : State) (c : SessionContext),
       let t := computeTargets s c
       let v := s.mfe.packVoltage
       levelPower t.grant + t.pChg ≤ t.pAvail
         ∧ t.pAvail ≤ (s.seq.common c.profile).maxPower
         ∧ (s.alc.offer.state ≠ .live → t.pAvail = 0)
         ∧ t.set * v / 100 ≤ t.pChg ∧ t.set ≤ t.iAcc ∧ t.set ≤ (s.seq.common c.profile).maxCurrent
         ∧ (∀ ceiling, s.alc.ceiling = some ceiling → t.set ≤ ceiling)
         ∧ (c.profile = .dc → t.set ≤ s.alc.offer.iOff)
         ∧ (v < 1000 → t.set = 0)
         ∧ (∀ limit, c.profile = .dc → s.alc.offer.vOff = .upTo limit → limit ≤ v → t.set = 0)
         ∧ (s.htr.request = none → t.grant = none)
         ∧ (∀ r, s.htr.request = some r → levelCode t.grant ≤ r.level.code)
         ∧ ((s.htr.state ≠ .on ∨ ∀ r, s.htr.request = some r → r.source ≠ .inlet) → t.grant = none))
  ∧ (∀ (requested : Level) (x : Nat),
       (∀ l, grant requested x = some l → l.code ≤ requested.code ∧ l.power ≤ x
           ∧ ∀ m : Level, m.code ≤ requested.code → m.power ≤ x → m.code ≤ l.code)
       ∧ (grant requested x = none → x < 300))
  ∧ (∀ s : State,
       (s.alc.quiet = true → (allocate s).alc.appliedSet ≤ s.alc.appliedSet
         ∧ levelCode (allocate s).alc.appliedGrant ≤ levelCode s.alc.appliedGrant)
       ∧ (s.seq.state.delivers = true → (closeQuiet s).alc.quiet = false
         ∧ (closeQuiet s).alc.appliedSet = s.alc.targetSet
         ∧ (closeQuiet s).alc.appliedGrant = s.alc.targetGrant))

/-! ## Battery heating -/

/-- R60: the sources a standing request can use. INLET is usable while SEQ is in ENERGY or TAPER; a
PACK source already held is usable while its policy, IDLE, PACK_LIVE and pack_floor hold; and a PACK
source may be taken when, beside these, no start is pending and the rest for PACK_HEAT has elapsed.

R7: the rest a next operation needs after the last one: none after none, release_rest of the last
profile for the same inlet, the larger of it and switch_rest for the other, the larger of it and
turn_rest for heating from the pack, and after heating heat_rest or the larger of it and turn_rest.
-/
def Obligations.TheSourcesAndRestsOfARequest : Prop :=
  (∀ (s : State) (r : HeatRequest),
     let holds := r.policy = .inletOrPack ∧ s.seq.state = .idle ∧ s.inputs.packLive = true
       ∧ s.htr.settings.packFloor ≤ s.mfe.packVoltage
     let takeable := holds ∧ s.seq.pendingStart = none
       ∧ s.seq.rest.endInstant + requiredRest s .packHeat ≤ s.time / 1000
     (usableSource s r = .inlet ↔ (s.seq.state = .energy ∨ s.seq.state = .taper))
       ∧ (r.source = .pack → (usableSource s r = .pack ↔ holds))
       ∧ (r.source ≠ .pack → (usableSource s r = .pack ↔ takeable)))
  ∧ (∀ (s : State) (p : Profile),
       let rest := s.seq.rest
       let releaseRest := (match rest.profile with
         | .ac => s.seq.ac
         | .dc => s.seq.dc).releaseRest
       (rest.kind = .none → requiredRest s (.charge p) = 0 ∧ requiredRest s .packHeat = 0)
         ∧ (rest.kind = .charge → p = rest.profile → requiredRest s (.charge p) = releaseRest)
         ∧ (rest.kind = .charge → p ≠ rest.profile →
             requiredRest s (.charge p) = max releaseRest s.seq.settings.switchRest)
         ∧ (rest.kind = .charge →
             requiredRest s .packHeat = max releaseRest s.seq.settings.turnRest)
         ∧ (rest.kind = .packHeat → requiredRest s .packHeat = s.htr.settings.heatRest
             ∧ requiredRest s (.charge p) = max s.htr.settings.heatRest s.seq.settings.turnRest))

/-- R61 to R64: where the evaluation of a standing request leaves it. Without a usable source, or
with the element lock set, it is PENDING with no source and the switch open. With one, no demand
leads to SATISFIED; either way out of CHECK empties the HEATER slot and discards and counts a
measurement in flight for it (R62, R82); demand leads to CHECK, from which a fresh result moves it
at once to ON or ends it; and ON stands until the target or max_pack_temp is reached.

R61, R62, R60: what an evaluation asks. The pack demands heat while T_max is below max_pack_temp and
T_min below target minus hysteresis, or below target while has been on is no, an UNKNOWN figure
replaced by assumed_temp. The HEATER record's result is fresh when it is present, check_age is not 0
and its age is at most check_age times 1,000 ms. The PACK source can be taken under R60's six
conditions. CHECK with the demand standing, and SATISFIED without demand, stay.

R60, R61 (PACK_HEAT_REST_ELAPSED): a request that waits PENDING and may now take the PACK source
does so when the pack demands heat, and asks ISM for the HEATER section unless a result is fresh;
before the rest has elapsed the command changes nothing. Log entry 1. -/
def Obligations.TheEvaluationPlacesTheRequest : Prop :=
  (∀ (s : State) (r : HeatRequest), s.htr.request = some r →
     let t := htrEvaluate s
     let source := usableSource s r
     let usable := s.htr.lock = false ∧ source ≠ .none ∧ (r.source = .none ∨ r.source = source)
     let waits := s.htr.state = .idle ∨ s.htr.state = .pending ∨ s.htr.state = .satisfied
     let withdrawn := t.ism.slotHeater = false
       ∧ ((∀ m, s.ism.flight = some m → m.slot ≠ .heater) →
         t.ism = { s.ism with slotHeater := false })
       ∧ (∀ m, s.ism.flight = some m → m.slot = .heater → t.ism.flight = none
         ∧ ∀ sec, t.ism.record sec = if sec = m.sec then { s.ism.record sec with
             discarded := bump16 (s.ism.record sec).discarded } else s.ism.record sec)
     (¬ usable → t.htr.state = .pending
         ∧ (s.htr.state ≠ .pending → t.htr.request = some { r with source := .none }
           ∧ t.htr.level = none)
         ∧ (s.htr.state = .on → t.htr.switch = false)
         ∧ (s.htr.state = .check → withdrawn))
       ∧ (usable → demandsHeat s r = false → s.htr.state = .check → withdrawn)
       ∧ (usable → demandsHeat s r = false →
           (s.htr.state = .idle ∨ s.htr.state = .pending ∨ s.htr.state = .check) →
           t.htr.state = .satisfied ∧ t.htr.request = some { r with source := source })
       ∧ (usable → demandsHeat s r = true → waits → freshCheck s = none →
           t.htr.state = .check ∧ t.htr.request = some { r with source := source }
             ∧ t.ism.slotHeater = true)
       ∧ (∀ figure, usable → demandsHeat s r = true → waits → freshCheck s = some figure →
           (s.ism.fault ≤ figure → t.htr.state = .on ∧ t.htr.switch = true
             ∧ t.htr.request = some { r with source := source, hasBeenOn := true }
             ∧ (source = .pack → t.runActive = true
               ∧ t.htr.level = grant r.level (min s.htr.settings.packHeatMax 2400))
             ∧ (source = .inlet → s.seq.ctx.isSome = true → t.htr.level = t.alc.appliedGrant))
           ∧ (figure < s.ism.fault → t.htr.state = .idle ∧ t.htr.request = none
             ∧ t.htr.level = none))
       ∧ (usable → s.htr.state = .on →
           (r.target ≤ s.tMinUsed ∨ s.htr.settings.maxPackTemp ≤ s.tMaxUsed) →
           t.htr.state = .satisfied ∧ t.htr.switch = false
             ∧ t.htr.request = some { r with source := source })
       ∧ (usable → s.htr.state = .on → s.tMinUsed < r.target →
           s.tMaxUsed < s.htr.settings.maxPackTemp →
           t.htr.state = .on ∧ t.htr.request = some r))
  ∧ (∀ (s : State) (r : HeatRequest),
       let h := s.htr.settings
       let now := s.time / 1000
       let low := s.alc.tMin.getD h.assumedTemp
       let high := s.alc.tMax.getD h.assumedTemp
       let source := usableSource s r
       s.tMinUsed = low ∧ s.tMaxUsed = high
         ∧ (demandsHeat s r = true ↔ high < h.maxPackTemp
           ∧ (low < r.target - h.hysteresis ∨ (r.hasBeenOn = false ∧ low < r.target)))
         ∧ (∀ figure, freshCheck s = some figure ↔ h.checkAge ≠ 0
           ∧ ∃ q, s.ism.heater.result = some q ∧ q.figure = figure
             ∧ now - q.instant ≤ h.checkAge * 1000)
         ∧ (packTakeable s r = true ↔ r.policy = .inletOrPack ∧ s.seq.state = .idle
           ∧ s.seq.pendingStart = none ∧ s.inputs.packLive = true ∧ h.packFloor ≤ s.mfe.packVoltage
           ∧ s.seq.rest.endInstant + requiredRest s .packHeat ≤ now)
         ∧ (s.htr.request = some r → s.htr.lock = false → source ≠ .none →
             (r.source = .none ∨ r.source = source) →
             ((s.htr.state = .check ∧ demandsHeat s r = true)
               ∨ (s.htr.state = .satisfied ∧ demandsHeat s r = false)) →
             htrEvaluate s = s))
  ∧ (∀ (a : Arrival) (s : State),
       let u := arrive a s
       ((s.time + a.elapsed) / 1000 < s.seq.rest.endInstant + requiredRest s .packHeat →
         exec (.packHeatRestElapsed a) s = .next (finish s u))
       ∧ (∀ r, s.htr.request = some r → s.htr.state = .pending → r.source = .none →
           s.htr.lock = false → packTakeable u r = true → demandsHeat s r = true →
           freshCheck u = none →
         ∃ t, exec (.packHeatRestElapsed a) s = .next (finish s t)
           ∧ t.htr.state = .check ∧ t.htr.request = some { r with source := .pack }
           ∧ t.ism.slotHeater = true))

/-- R56, R57 (HEAT_REQUEST): an enumeration outside its set is RANGE, and a FAULT level of PACK or
HEATER is LATCHED, with nothing changed. Otherwise the request is written, brought into range, in
place of any standing one whose source it carries over; the allocation and the evaluation follow;
and the reply says whether a value was brought into range, and where HTR then stands.

Section 10.6: the HEAT_REQUEST reply is the status, the heater state, the source held (NONE with no
request standing) and the applied level. -/
def Obligations.HeatRequestReplacesAndEvaluates : Prop :=
  (∀ (a : Arrival) (f : HeatRequestReq) (s : State), slotReady s = true →
     let ranged := 2 ≤ f.levelRange.toNat ∨ 2 ≤ f.policy.toNat
     let faulted := s.ism.packLevel.level = .fault ∨ s.ism.heaterLevel.level = .fault
     let target := f.target.toInt
     let step := f.levelStep.toNat
     let minutes := f.duration.toNat
     let code := if f.levelRange.toNat = 0 then (if step < 1 then 1 else if 8 < step then 8 else step)
       else (if step < 5 then 8 else if 8 < step then 12 else step + 4)
     let exact := -20 ≤ target ∧ target ≤ 40 ∧ 1 ≤ minutes ∧ minutes ≤ 600
       ∧ (if f.levelRange.toNat = 0 then 1 else 5) ≤ step ∧ step ≤ 8
     (ranged → exec (.heatRequest a f) s = .next (answered 0x29 [4] (taken a s)))
     ∧ (¬ ranged → faulted → exec (.heatRequest a f) s
         = .next (answered 0x29 (heatReply .latched s) (taken a s)))
     ∧ (¬ ranged → ¬ faulted →
       ∃ (r : HeatRequest) (u : State),
         u = htrEvaluate (allocate ((taken a s).withHtr { s.htr with request := some r }))
         ∧ exec (.heatRequest a f) s = .next (answered 0x29
             (heatReply (if exact then .ok else .clamped) u) (arbiter (taken a s) u))
         ∧ r.target = (if target < -20 then -20 else if 40 < target then 40 else target)
         ∧ r.level.code = code
         ∧ r.policy = (if f.policy.toNat = 1 then .inletOrPack else .inletOnly)
         ∧ r.expiry = (s.time + a.elapsed) / 1000
             + (if minutes < 1 then 1 else if 600 < minutes then 600 else minutes) * 60000
         ∧ r.hasBeenOn = false
         ∧ r.source = (match s.htr.request with
             | some old => old.source
             | none => .none)))
  ∧ (∀ (st : Status) (s : State),
       heatReply st s = putU8 st.code.toNat ++ putU8 s.htr.state.code
         ++ putU8 (match s.htr.request with | some r => r.source.code | none => 0)
         ++ putU8 (levelCode s.htr.level))

/-- R58, R59 (HEAT_CANCEL, REQUEST_EXPIRY): in IDLE a cancel is STATE. A standing request that is
cancelled or expires ends: the level falls to NONE, a closed switch opens, CHECK's request in ISM's
HEATER slot is withdrawn, its measurement in flight discarded and counted (R82), an active run ends
with the request's cause, HTR enters IDLE, and HEAT_STATE is raised with the cause. A request that
has not reached its expiry stands.

R9, R67, R68: an accepted start ends an active pack-heat run with the cause SUPERSEDED, its request
going PENDING without a source, and counts the rest from that instant. A request of its in ISM's
HEATER slot is withdrawn, and a measurement in flight for it discarded and counted (R82). Log entry
1. -/
def Obligations.ARequestOrARunEndsWithItsCause : Prop :=
  (∀ (a : Arrival) (s : State),
     let now := (s.time + a.elapsed) / 1000
     let ended (cause : HeatEnd) (t : State) :=
       t.htr.request = none ∧ t.htr.state = .idle ∧ t.htr.level = none
         ∧ (s.htr.state = .on → t.htr.switch = false)
         ∧ (s.htr.state = .check → t.ism.slotHeater = false
           ∧ ((∀ m, s.ism.flight = some m → m.slot ≠ .heater) →
             t.ism = { s.ism with slotHeater := false })
           ∧ (∀ m, s.ism.flight = some m → m.slot = .heater → t.ism.flight = none
             ∧ ∀ sec, t.ism.record sec = if sec = m.sec then { s.ism.record sec with
                 discarded := bump16 (s.ism.record sec).discarded } else s.ism.record sec))
         ∧ (s.runActive = true → ∃ run, t.htr.run = some run ∧ run.ended = some (now, cause)
           ∧ t.seq.rest = { s.seq.rest with kind := .packHeat, endInstant := now }
           ∧ (t.evt.at 8).latest
               = some (now, .heatState .idle .none none (some cause) (some run)))
         ∧ (s.runActive = false → t.htr.run = s.htr.run ∧ t.seq = s.seq
           ∧ (t.evt.at 8).latest = some (now, .heatState .idle .none none (some cause) none))
     (slotReady s = true → s.htr.state = .idle →
       exec (.heatCancel a) s = .next (answered 0x2A [3, 0] (taken a s)))
     ∧ (slotReady s = true → s.htr.state ≠ .idle → s.htr.request.isSome = true →
       ∃ t, exec (.heatCancel a) s = .next (answered 0x2A [0, 0] (arbiter (taken a s) t)) ∧ ended .cancelled t)
     ∧ (∀ r, s.htr.request = some r → r.expiry ≤ now →
       ∃ t, exec (.requestExpiry a) s = .next (finish s t) ∧ ended .expired t)
     ∧ ((s.htr.request = none ∨ ∃ r, s.htr.request = some r ∧ now < r.expiry) →
       exec (.requestExpiry a) s = .next (finish s (arrive a s))))
  ∧ (∀ (s : State) (r : HeatRequest) (run : RunRecord), s.htr.request = some r →
       s.htr.run = some run → run.ended = none →
       let t := supersede s
       t.htr.state = .pending ∧ t.htr.request = some { r with source := .none }
         ∧ (s.htr.state = .on → t.htr.switch = false)
         ∧ (s.htr.state = .check → t.ism.slotHeater = false
           ∧ ((∀ m, s.ism.flight = some m → m.slot ≠ .heater) →
             t.ism = { s.ism with slotHeater := false })
           ∧ (∀ m, s.ism.flight = some m → m.slot = .heater → t.ism.flight = none
             ∧ ∀ sec, t.ism.record sec = if sec = m.sec then { s.ism.record sec with
                 discarded := bump16 (s.ism.record sec).discarded } else s.ism.record sec))
         ∧ (∃ last, t.htr.run = some last ∧ last.ended = some (s.nowMs, .superseded)
           ∧ last.start = run.start
           ∧ (t.evt.at 8).latest = some (s.nowMs, .heatState .pending .none none none (some last)))
         ∧ t.seq = { s.seq with
             rest := { s.seq.rest with kind := .packHeat, endInstant := s.nowMs } }
         ∧ t.mtr.intervalStart = s.time)

/-- R65 (ELEMENT_TEMPERATURE reading): the reading is held with its validity; an invalid reading or
one at element_max sets the lock, a valid one below element_resume clears it, and one between leaves
it; turning the sensor invalid raises SENSOR_FAULT; and HTR evaluates exactly when the lock changed.
Log entries 14, 36. -/
def Obligations.TheElementLockFollowsTheReading : Prop :=
  ∀ (a : Arrival) (r : Reading) (s : State),
    let valid := r.marked = true ∧ -40 ≤ r.value ∧ r.value ≤ 150
    ∃ u, exec (.elementTemperatureReading a r) s
          = .next (finish s (if u.htr.lock = s.htr.lock then u else htrEvaluate u))
      ∧ u.htr = { s.htr with
          element := { value := r.value, valid := decide valid }, lock := u.htr.lock }
      ∧ (¬ valid → u.htr.lock = true)
      ∧ (valid → s.htr.settings.elementMax ≤ r.value → u.htr.lock = true)
      ∧ (valid → r.value < s.htr.settings.elementMax → r.value < s.htr.settings.elementResume →
          u.htr.lock = false)
      ∧ (valid → r.value < s.htr.settings.elementMax → s.htr.settings.elementResume ≤ r.value →
          u.htr.lock = s.htr.lock)
      ∧ (s.htr.element.valid = true → ¬ valid →
          u.evt = s.evt.raise ((s.time + a.elapsed) / 1000)
            (.sensorFault .element (if r.marked then .outOfRange else .markedInvalid)))
      ∧ ((s.htr.element.valid = false ∨ valid) → u.evt = s.evt)
      ∧ u.seq = s.seq ∧ u.alc = s.alc ∧ u.ism = s.ism ∧ u.mtr = s.mtr ∧ u.bil = s.bil
      ∧ u.lnk = s.lnk

/-! ## Insulation -/

/-- R91 (ISO_MEASURE): a target outside its set is RANGE; outside SINGLE mode, for PASS while
scan-busy, and for a section while the HOST slot holds a request, STATE and nothing changes;
otherwise a pass starts from first_section, or the section is placed in the HOST slot, and the
arbiter runs before the reply.

R92 (ISO_STOP): taken in every mode and network state. The mode becomes OFF, the timer stops, scan-
busy is cleared, the SCAN and HOST slots are emptied, and a measurement for either is discarded
first; the SEQUENCER and HEATER slots and a measurement for either stand. Log entry 8. -/
def Obligations.IsoMeasureStartsAndIsoStopEnds : Prop :=
  (∀ (a : Arrival) (f : IsoMeasureReq) (s : State), slotReady s = true →
     (4 ≤ f.target.toNat → exec (.isoMeasure a f) s = .next (answered 0x31 [4] (taken a s)))
     ∧ (f.target.toNat ≤ 3 →
         (s.ism.scan.mode ≠ .single ∨ (f.target.toNat = 3 ∧ s.ism.scan.busy = true)
           ∨ (f.target.toNat ≤ 2 ∧ s.ism.slotHost.isSome = true)) →
       exec (.isoMeasure a f) s = .next (answered 0x31 [3] (taken a s)))
     ∧ (s.ism.scan.mode = .single → f.target.toNat = 3 → s.ism.scan.busy = false →
       exec (.isoMeasure a f) s = .next (answered 0x31 [0] (arbiter (taken a s) ((taken a s).withIsm
         { s.ism with scan := { s.ism.scan with
             busy := true, step := some s.ism.scan.first, measured := false } }))))
     ∧ (∀ sec : Section, s.ism.scan.mode = .single → f.target.toNat = sec.num →
         s.ism.slotHost = none →
       exec (.isoMeasure a f) s = .next (answered 0x31 [0] (arbiter (taken a s) ((taken a s).withIsm
         { s.ism with slotHost := some sec })))))
  ∧ (∀ (a : Arrival) (s : State), slotReady s = true →
       ∃ t, exec (.isoStop a) s = .next (answered 0x32 [0] (arbiter (taken a s) t))
         ∧ t.ism.scan = { s.ism.scan with
             mode := .off, busy := false, step := none, measured := false, timer := none }
         ∧ t.ism.slotHost = none ∧ t.ism.slotSeq = s.ism.slotSeq ∧ t.ism.slotHeater = s.ism.slotHeater
         ∧ (∀ m, s.ism.flight = some m →
             ((m.slot = .scan ∨ m.slot = .host) → t.ism.flight = none
               ∧ t.ism.record m.sec = { s.ism.record m.sec with
                   discarded := bump16 (s.ism.record m.sec).discarded })
             ∧ ((m.slot = .sequencer ∨ m.slot = .heater) → t.ism.flight = some m)))

/-- R95 (ISO_RESULTS): a section mask with a bit beyond INLET, or a flag byte above 1, is RANGE;
otherwise the reply is the header and one entry per named section as they stood before, and only
then the fresh flags, and as asked the overwrite flags and the counts, of the named sections are
cleared.

Section 10.6 (ISO_RESULTS): the header's 8 bytes are the scan, the network and what it measures, the
slots and the thresholds; the entries of the sections named follow in the order PACK, HEATER, INLET,
with the result, its age and the counts, and for PACK and HEATER the level fields. -/
def Obligations.IsoResultsReportsThenClears : Prop :=
  (∀ (a : Arrival) (f : IsoResultsReq) (s : State), slotReady s = true →
     ((8 ≤ f.sections.toNat ∨ 2 ≤ f.clearOverwrite.toNat ∨ 2 ≤ f.clearCounts.toNat) →
       exec (.isoResults a f) s = .next (answered 0x33 [4] (taken a s)))
     ∧ (f.sections.toNat < 8 → f.clearOverwrite.toNat ≤ 1 → f.clearCounts.toNat ≤ 1 →
       ∃ i : Ism, exec (.isoResults a f) s = .next (answered 0x33
           (0 :: isoHeader s.ism
             ++ (sectionsOf f.sections).flatMap (sectionEntry s.ism (taken a s).nowMs))
           ((taken a s).withIsm i))
         ∧ (∀ sec : Section, i.record sec =
             if f.sections.getLsbD sec.num then
               { s.ism.record sec with
                 fresh := false
                 overwrite := (s.ism.record sec).overwrite && decide (f.clearOverwrite.toNat = 0)
                 completed := if f.clearCounts.toNat = 1 then 0 else (s.ism.record sec).completed
                 discarded := if f.clearCounts.toNat = 1 then 0 else (s.ism.record sec).discarded
                 dead := if f.clearCounts.toNat = 1 then 0 else (s.ism.record sec).dead
                 inconsistent :=
                   if f.clearCounts.toNat = 1 then 0 else (s.ism.record sec).inconsistent
                 skipped := if f.clearCounts.toNat = 1 then 0 else (s.ism.record sec).skipped }
             else s.ism.record sec)
         ∧ i.scanOverrun = (if f.sections.getLsbD 0 ∧ f.clearCounts.toNat = 1 then 0
             else s.ism.scanOverrun)
         ∧ i.packLevel = s.ism.packLevel ∧ i.heaterLevel = s.ism.heaterLevel
         ∧ i.scan = s.ism.scan ∧ i.flight = s.ism.flight ∧ i.slotSeq = s.ism.slotSeq
         ∧ i.slotHeater = s.ism.slotHeater ∧ i.slotHost = s.ism.slotHost
         ∧ i.settings = s.ism.settings ∧ i.warn = s.ism.warn ∧ i.fault = s.ism.fault))
  ∧ (∀ (i : Ism) (now : Nat) (mask : Byte),
       let flag (b : Bool) := if b then 1 else 0
       let age (at_ : Nat) := putU32 (min (now - at_) 4294967295)
       let level (l : LevelRecord) := putU8 l.lowRun ++ putU8 l.faultRun ++ putU8 l.goodRun
         ++ (match l.latch with
           | some q => putU8 (l.level.code + 4 + 16 * q.slot.code) ++ putU16 q.figure ++ age q.instant
           | none => putU8 l.level.code ++ List.replicate 6 0)
       isoHeader i = putU8 (i.scan.mode.code + 4 * flag i.scan.busy
             + 16 * (match i.scan.step with | some sec => sec.num | none => 3))
           ++ putU8 (netCode i.flight)
           ++ putU8 (match i.flight with | some m => m.slot.code + 16 * m.sec.num | none => 0)
           ++ putU8 (flag i.slotSeq + 2 * flag i.slotHeater
             + 16 * (match i.slotHost with | some sec => sec.num + 1 | none => 0))
           ++ putU16 i.warn ++ putU16 i.fault
         ∧ (∀ sec : Section,
             let r := i.record sec
             let marks := 16 * flag r.fresh + 32 * flag r.overwrite
             sectionEntry i now sec
               = (match r.result with
                 | some q => putU8 (sec.num + 4 + 8 * flag q.isOver + marks + 64 * q.slot.code)
                   ++ putU16 q.rp ++ putU16 q.rn ++ putU16 q.vRef ++ age q.instant
                 | none => putU8 (sec.num + marks) ++ List.replicate 10 0)
               ++ putU16 r.completed ++ putU16 r.discarded ++ putU16 r.dead ++ putU16 r.inconsistent
               ++ putU16 r.skipped
               ++ (match sec with
                 | .pack => putU16 i.scanOverrun ++ level i.packLevel
                 | .heater => level i.heaterLevel
                 | .inlet => [])
             ∧ (sectionEntry i now sec).length
               = (match sec with | .pack => 33 | .heater => 31 | .inlet => 21))
         ∧ sectionsOf mask = (if mask.getLsbD 0 then [.pack] else [])
           ++ (if mask.getLsbD 1 then [.heater] else []) ++ (if mask.getLsbD 2 then [.inlet] else []))

/-- R112 (ISO_CLEAR): the four cases of its table, for PACK and for HEATER; INLET and any other
value are RANGE. A cleared section keeps its runs, and ISO_LEVEL is raised with cause CLEAR. -/
def Obligations.IsoClearFollowsItsTable : Prop :=
  ∀ (a : Arrival) (f : IsoClearReq) (s : State), slotReady s = true →
    (2 ≤ f.section_.toNat → exec (.isoClear a f) s = .next (answered 0x35 [4] (taken a s)))
    ∧ ∀ sec l, f.section_.toNat = sec.num → s.ism.levelRecord? sec = some l →
      ((l.level = .fault → 3 ≤ l.goodRun →
          exec (.isoClear a f) s = .next (answered 0x35 [0, 0, byteOf l.goodRun, 0]
            (allocate (raise (.isoLevel sec .fault .normal none)
              ((taken a s).withIsm
                (s.ism.withLevel sec { l with level := .normal, latch := none }))))))
      ∧ ((l.level = .fault ∧ l.goodRun < 3) ∨ l.level = .warning →
          exec (.isoClear a f) s = .next (answered 0x35
            [3, byteOf l.level.code, byteOf l.goodRun, byteOf (boolCode l.latch.isSome)] (taken a s)))
      ∧ (l.level = .normal →
          exec (.isoClear a f) s = .next (answered 0x35
            [0, 0, byteOf l.goodRun, byteOf (boolCode l.latch.isSome)] (taken a s))))

/-- R98 to R104: the outcome of the four means. A bus below 500 dV in either phase is DEAD; buses
further apart than the tolerance, or a sign product not above 0, are INCONSISTENT; otherwise each
resistance is floor(r0 × det / denominator) up to the ceiling of 50,000 kΩ, R_iso is the smaller,
the figure is floor(R_iso × 10,000 / v_ref), and OVER marks both resistances over the ceiling. -/
def Obligations.TheEstimateFollowsItsSteps : Prop :=
  ∀ (set : IsoSettings) (vpA vnA vpB vnB : Nat),
    let vbA := vpA + vnA
    let vbB := vpB + vnB
    let det : Int := (vnA : Int) * vpB - (vpA : Int) * vnB
    let dead := vbA < 500 ∨ vbB < 500
    let apart := vbB + set.tolerance < vbA ∨ vbA + set.tolerance < vbB
    let o := estimate set vpA vnA vpB vnB
    (dead → o = .dead vbA vbB)
    ∧ (¬ dead → apart → o = .tolerance vbA vbB)
    ∧ (¬ dead → ¬ apart → det ≤ 0 → o = .polarity vbA vbB)
    ∧ (¬ dead → ¬ apart → 0 < det →
      let raw (denominator : Nat) : Int := (set.r0 : Int) * det / denominator
      let past (denominator : Nat) : Prop := denominator = 0 ∨ 50000 < raw denominator
      ∃ rp rn : Nat,
        (past (vnB * vbA) → rp = 50000) ∧ (¬ past (vnB * vbA) → (rp : Int) = raw (vnB * vbA))
        ∧ (past (vpA * vbB) → rn = 50000) ∧ (¬ past (vpA * vbB) → (rn : Int) = raw (vpA * vbB))
        ∧ o = .result vbA vbB rp rn (min rp rn) (min rp rn * 10000 / set.vRef)
            (decide (past (vnB * vbA) ∧ past (vpA * vbB))))

/-- R107 to R110: a figure judged. LOW counts the low and the fault run up and clears the good run,
MARGINAL counts the low run up and clears the others, GOOD counts the good run up and clears the
others; two of the fault run enter FAULT, two of the low run leave NORMAL for WARNING, three of the
good run return WARNING to NORMAL, and FAULT stands; entry to FAULT alone sets the latch.

R94, R107, R108, R111, R114, R115, R154: what a RESULT does beside its own record, and that no other
outcome does it. On PACK and HEATER the figure is judged (R108 to R110), ISO_LEVEL is raised exactly
when the level moves, and entry to FAULT ends the heat request with ISO_FAULT. PACK entering FAULT
also cancels a pending start and releases an open phase with ISO_FAULT; HEATER entering it leaves
SEQ where it stands. A PACK figure goes to the open session's record as its minimum. Log entries 9,
30. -/
def Obligations.TheLevelFollowsTheRuns : Prop :=
  (∀ (l : LevelRecord) (warn fault figure now : Nat) (slot : Slot),
     l.lowRun ≤ 255 → l.faultRun ≤ 255 → l.goodRun ≤ 255 →
     let t := l.judge warn fault figure now slot
     let more (run : Nat) := min 255 (run + 1)
     (figure < fault → t.lowRun = more l.lowRun ∧ t.faultRun = more l.faultRun ∧ t.goodRun = 0)
     ∧ (fault ≤ figure → figure < warn →
         t.lowRun = more l.lowRun ∧ t.faultRun = 0 ∧ t.goodRun = 0)
     ∧ (fault ≤ figure → warn ≤ figure →
         t.lowRun = 0 ∧ t.faultRun = 0 ∧ t.goodRun = more l.goodRun)
     ∧ (t.level = .fault ↔ l.level = .fault ∨ 2 ≤ t.faultRun)
     ∧ (t.level = .warning ↔ l.level ≠ .fault ∧ t.faultRun < 2
         ∧ ((l.level = .normal ∧ 2 ≤ t.lowRun) ∨ (l.level = .warning ∧ t.goodRun < 3)))
     ∧ t.latch = (if l.level ≠ .fault ∧ t.level = .fault then
         some { figure := figure, instant := now, slot := slot } else l.latch))
  ∧ (∀ (slot : Slot) (sec : Section) (x y : Nat × Nat) (s : State),
       (slot = .sequencer → sec = .inlet) → (slot = .heater → sec = .heater) →
       let o := estimate s.ism.settings x.1 x.2 y.1 y.2
       let t := complete slot sec x y s
       let now := s.nowMs
       (∀ other l, other ≠ sec → s.ism.levelRecord? other = some l →
           t.ism.levelRecord? other = some l)
       ∧ ((sec = .inlet ∨ ∀ vbA vbB rp rn rIso figure mark,
             o ≠ .result vbA vbB rp rn rIso figure mark) →
           t.ism.packLevel = s.ism.packLevel ∧ t.ism.heaterLevel = s.ism.heaterLevel
           ∧ t.evt.at 2 = s.evt.at 2
           ∧ ((slot = .host ∨ slot = .scan) → t.bil = s.bil ∧ t.seq = s.seq ∧ t.htr.state = s.htr.state
             ∧ t.htr.request = s.htr.request))
       ∧ (∀ vbA vbB rp rn rIso figure mark l, o = .result vbA vbB rp rn rIso figure mark →
           s.ism.levelRecord? sec = some l →
         let after := l.judge s.ism.warn s.ism.fault figure now slot
         let faulted := after.level = .fault ∧ l.level ≠ .fault
         let low := match s.bil.openRec with
           | some r => some (match r.minIso with
             | some least => min least figure
             | none => figure)
           | none => none
         t.ism.levelRecord? sec = some after
         ∧ (after.level = l.level → t.evt.at 2 = s.evt.at 2)
         ∧ (after.level ≠ l.level → (t.evt.at 2).latest
             = some (now, .isoLevel sec l.level after.level (some figure)))
         ∧ (faulted → s.htr.request.isSome = true →
             t.htr.request = none ∧ t.htr.state = .idle ∧ t.htr.level = none
             ∧ (s.htr.state = .on → t.htr.switch = false)
             ∧ ∃ run, (t.evt.at 8).latest
                 = some (now, .heatState .idle .none none (some .isoFault) run))
         ∧ (sec = .heater → t.seq.state = s.seq.state ∧ t.seq.ctx = s.seq.ctx
             ∧ t.seq.pendingStart = s.seq.pendingStart)
         ∧ (sec = .pack → ¬ faulted → t.seq = s.seq ∧ t.bil = { s.bil with
             openRec := s.bil.openRec.map fun r => { r with minIso := low } })
         ∧ (sec = .pack → faulted →
           (s.seq.state = .waitingRest → t.seq.state = .idle ∧ t.seq.pendingStart = none)
           ∧ ((s.seq.state = .idle ∨ s.seq.state = .release) →
               t.seq.state = s.seq.state ∧ t.seq.ctx = s.seq.ctx)
           ∧ (∀ c, s.seq.state.isOpenPhase = true → s.seq.ctx = some c →
             (c.energised = true → t.seq.state = .release ∧ t.seq.ctx = some { c with
                 phaseEntry := now, rawChange := none, endCause := some .isoFault })
             ∧ (c.energised = false → t.seq.state = .idle ∧ t.seq.ctx = none
               ∧ ∀ r, s.bil.openRec = some r → ∃ q, t.bil.queue = s.bil.queue ++ [q]
                 ∧ q.sequence = r.sequence ∧ q.endCause = .isoFault ∧ q.minIso = low)))))

/-- R77, R78 (SETTLE_END): when the settling of phase A or B has run its time the network goes on to
that phase's sampling, with nothing sampled yet, for as many ms as there are samples. Earlier, in a
sampling phase or with the network FREE nothing happens.

R78 (RAIL_SAMPLE): a sample outside SAMPLE_A and SAMPLE_B is not taken. Within, each rail counts as
at most 10,000 dV; the last sample of phase A closes it with the rounded means and settles phase B;
and the last of phase B completes the measurement with the four means.

R89 (PERIOD_EXPIRY): at the expiry the next one is set a period later; a pass starts from
first_section, or, while a pass is still running, the expiry is only counted. A timer that does not
run, or is not due, does nothing. Log entry 1. -/
def Obligations.SettlingSamplingAndThePeriod : Prop :=
  (∀ (a : Arrival) (s : State),
     let now := (s.time + a.elapsed) / 1000
     (∀ m, s.ism.flight = some m → (m.phase = .settleA ∨ m.phase = .settleB) → m.phaseEnd ≤ now →
       exec (.settleEnd a) s = .next (finish s ((arrive a s).withIsm { s.ism with
         flight := some { m with
           phase := if m.phase = .settleA then .sampleA else .sampleB
           phaseEnd := now + s.ism.settings.samples
           sumP := 0, sumN := 0, count := 0 } })))
     ∧ ((s.ism.flight = none ∨ ∃ m, s.ism.flight = some m
         ∧ (m.phase = .sampleA ∨ m.phase = .sampleB ∨ now < m.phaseEnd)) →
       exec (.settleEnd a) s = .next (finish s (arrive a s))))
  ∧ (∀ (a : Arrival) (vp vn : Nat) (s : State),
       let now := (s.time + a.elapsed) / 1000
       let n := s.ism.settings.samples
       let flight (m : Measurement) := (arrive a s).withIsm { s.ism with flight := some m }
       let mean (sum : Nat) := (sum + n / 2) / n
       ((s.ism.flight = none
           ∨ ∃ m, s.ism.flight = some m ∧ (m.phase = .settleA ∨ m.phase = .settleB)) →
         exec (.railSample a vp vn) s = .next (finish s (arrive a s)))
       ∧ (∀ m, s.ism.flight = some m → (m.phase = .sampleA ∨ m.phase = .sampleB) →
         let sumP := m.sumP + min vp 10000
         let sumN := m.sumN + min vn 10000
         (m.count + 1 < n → exec (.railSample a vp vn) s = .next (finish s (flight
           { m with sumP := sumP, sumN := sumN, count := m.count + 1 })))
         ∧ (n ≤ m.count + 1 → m.phase = .sampleA → exec (.railSample a vp vn) s = .next (finish s
           (flight { m with
             phase := .settleB, phaseEnd := now + m.settle, meansA := some (mean sumP, mean sumN)
             sumP := 0, sumN := 0, count := 0 })))
         ∧ (∀ meansA, n ≤ m.count + 1 → m.phase = .sampleB → m.meansA = some meansA →
           exec (.railSample a vp vn) s = .next (finish s
             (complete m.slot m.sec meansA (mean sumP, mean sumN) (arrive a s))))))
  ∧ (∀ (a : Arrival) (s : State),
       let now := (s.time + a.elapsed) / 1000
       (∀ due, s.ism.scan.timer = some due → due ≤ now →
         let scan := { s.ism.scan with timer := some (due + s.ism.scan.period * 1000) }
         (s.ism.scan.busy = true → exec (.periodExpiry a) s = .next (finish s ((arrive a s).withIsm
           { s.ism with scan := scan, scanOverrun := bump16 s.ism.scanOverrun })))
         ∧ (s.ism.scan.busy = false → exec (.periodExpiry a) s = .next (finish s ((arrive a s).withIsm
           { s.ism with scan := { scan with
               busy := true, step := some s.ism.scan.first, measured := false } }))))
       ∧ ((s.ism.scan.timer = none ∨ ∃ due, s.ism.scan.timer = some due ∧ now < due) →
         exec (.periodExpiry a) s = .next (finish s (arrive a s))))

/-- R79, R80, R93, R94, R98, R108 (a measurement completes): the network is FREE, the outcome stands
in its section's record (a RESULT whole, with the fresh flag, the overwrite flag of an unread one,
and the count of its kind), the HOST slot is emptied by its own measurement, and ISO_RESULT carries
the outcome.

R16, R62, R80, R87: how a completed measurement settles its slot's request. SEQUENCER: SEQ judges
the RESULT against the warn threshold, or counts a failure and asks again, the third failure
releasing the session. HEATER: HTR in CHECK judges the RESULT against the fault threshold, or asks
again. SCAN: the pass moves to its next step, ends, or in CONTINUOUS gives way to the next.

R81, R82: a discard frees the network, counts in its section's record and closes a PACK
measurement's quiet window; with the network FREE it does nothing.

R81, R83: the table of changes. DCC_CMD discards PACK and INLET, HTR_SW discards PACK and HEATER,
PACK_LIVE discards PACK, and a low DC inlet voltage discards INLET; any other measurement in flight
goes on. After it the SEQUENCER slot is emptied, HTR in CHECK asks again, and the HOST slot and the
scan keep what they hold.

R17, R71, R81, R83, R16 (DC_INLET_VOLTAGE reading): the reading is taken. Below 1,000 dV it discards
an INLET measurement in flight. SEQ's own in ISOCHECK is a failure of its check, the third of which
releases ISOCHECK_FAIL; any other is counted and its slot settled, and nothing is told to SEQ. With
no INLET measurement in flight, or at 1,000 dV or more, nothing else is discarded. -/
def Obligations.AMeasurementEndsInARecordOrADiscard : Prop :=
  (∀ (slot : Slot) (sec : Section) (x y : Nat × Nat) (s : State),
     let o := estimate s.ism.settings x.1 x.2 y.1 y.2
     let old := s.ism.record sec
     let t := complete slot sec x y s
     t.ism.flight = none
     ∧ (t.evt.at 9).latest = some (s.nowMs, .isoResult sec slot o)
     ∧ (∀ vbA vbB rp rn rIso figure mark, o = .result vbA vbB rp rn rIso figure mark →
         t.ism.record sec = { old with
           result := some { rp := rp, rn := rn, rIso := rIso, figure := figure, isOver := mark
                            vRef := s.ism.settings.vRef, instant := s.nowMs, slot := slot }
           fresh := true, overwrite := old.overwrite || old.fresh
           completed := bump16 old.completed })
     ∧ (∀ vbA vbB, o = .dead vbA vbB → t.ism.record sec = { old with dead := bump16 old.dead })
     ∧ (∀ vbA vbB, (o = .tolerance vbA vbB ∨ o = .polarity vbA vbB) →
         t.ism.record sec = { old with inconsistent := bump16 old.inconsistent })
     ∧ (slot = .host → t.ism.slotHost = none))
  ∧ (∀ (x y : Nat × Nat) (s : State),
       let o := estimate s.ism.settings x.1 x.2 y.1 y.2
       let now := s.nowMs
       let record (sec : Section) (slot : Slot) := (s.ism.record sec).store o s.ism.settings.vRef now slot
       let missed := ∀ vbA vbB rp rn rIso figure mark, o ≠ .result vbA vbB rp rn rIso figure mark
       (let t := complete .sequencer .inlet x y s
         let told (u : State) := raise (.isoResult .inlet .sequencer o) u
         let free := s.withIsm { s.ism with flight := none, slotSeq := false
                                            inlet := record .inlet .sequencer }
         (∀ vbA vbB rp rn rIso figure mark, o = .result vbA vbB rp rn rIso figure mark →
           let u := if s.ism.inlet.fresh then raise (.isoOverwrite .inlet) free else free
           t = told (if s.seq.state = .isocheck then
               (if s.ism.warn ≤ figure then enterWaiting .precharge u else enterRelease .inletIso u)
             else u))
         ∧ (∀ c, missed → s.seq.state = .isocheck → s.seq.ctx = some c →
           let u := free.withSeq { s.seq with
             ctx := some { c with isocheckFailures := c.isocheckFailures + 1 } }
           t = told (if 3 ≤ c.isocheckFailures + 1 then enterRelease .isocheckFail u
             else u.withIsm { free.ism with slotSeq := true }))
         ∧ (missed → s.seq.state ≠ .isocheck → t = told free))
       ∧ (let t := complete .heater .heater x y s
         (∀ vbA vbB rp rn rIso figure mark r, o = .result vbA vbB rp rn rIso figure mark →
             s.htr.state = .check → s.htr.request = some r →
           let faulted := s.ism.heaterLevel.level ≠ .fault
             ∧ (s.ism.heaterLevel.judge s.ism.warn s.ism.fault figure now .heater).level = .fault
           t.ism.slotHeater = false
           ∧ (s.ism.fault ≤ figure → ¬ faulted → t.htr.state = .on ∧ t.htr.switch = true
             ∧ t.htr.request = some { r with hasBeenOn := true })
           ∧ (figure < s.ism.fault → t.htr.state = .idle ∧ t.htr.request = none ∧ t.htr.level = none
             ∧ ∃ run, (t.evt.at 8).latest = some (now, .heatState .idle .none none
                 (some (if faulted then .isoFault else .isoCheck)) run)))
         ∧ (missed → t.htr = s.htr ∧ t.seq = s.seq
           ∧ t.ism.slotHeater = decide (s.htr.state = .check)))
       ∧ (∀ sec step, s.ism.scan.step = some step →
         let t := complete .scan sec x y s
         let scan := { s.ism.scan with measured := true }
         (step.num < scan.last.num → t.ism.scan = { scan with step := step.next })
         ∧ (scan.last.num ≤ step.num → scan.mode ≠ .continuous →
             t.ism.scan = { scan with busy := false, step := none })
         ∧ (scan.last.num ≤ step.num → scan.mode = .continuous →
             t.ism.scan = { scan with busy := true, step := some scan.first, measured := false })))
  ∧ (∀ s : State,
       (s.ism.flight = none → Machine.discard s = s)
       ∧ (∀ m, s.ism.flight = some m →
         (Machine.discard s).ism.flight = none
         ∧ (Machine.discard s).ism.record m.sec = { s.ism.record m.sec with
             discarded := bump16 (s.ism.record m.sec).discarded }
         ∧ (∀ sec, sec ≠ m.sec → (Machine.discard s).ism.record sec = s.ism.record sec)
         ∧ (m.sec = .pack → (Machine.discard s).alc.quiet = false)
         ∧ (m.sec ≠ .pack → (Machine.discard s).alc = s.alc ∧ (Machine.discard s).htr = s.htr)
         ∧ (Machine.discard s).seq = s.seq ∧ (Machine.discard s).evt = s.evt))
  ∧ (∀ (s : State) (m : Measurement), s.ism.flight = some m →
       let gone (t : State) := t.ism.flight = none
         ∧ t.ism.record m.sec = { s.ism.record m.sec with
             discarded := bump16 (s.ism.record m.sec).discarded }
         ∧ t.ism.slotSeq = (s.ism.slotSeq && decide (m.slot ≠ .sequencer))
         ∧ t.ism.slotHeater = (if m.slot = .heater then decide (s.htr.state = .check)
             else s.ism.slotHeater)
         ∧ t.ism.slotHost = s.ism.slotHost ∧ t.ism.scan = s.ism.scan ∧ t.seq = s.seq ∧ t.evt = s.evt
       (m.sec = .pack → gone (dccTopology s) ∧ gone (switchTopology s) ∧ gone (liveTopology s)
         ∧ inletTopology s = s)
       ∧ (m.sec = .heater → gone (switchTopology s) ∧ dccTopology s = s ∧ liveTopology s = s
         ∧ inletTopology s = s)
       ∧ (m.sec = .inlet → gone (dccTopology s) ∧ gone (inletTopology s) ∧ switchTopology s = s
         ∧ liveTopology s = s))
  ∧ (∀ (a : Arrival) (v : Nat) (s : State),
       s.seq.state ≠ .precharge →
       let u := (arrive a s).withMfe { (arrive a s).mfe with dcInletVoltage := v }
       ((1000 ≤ v ∨ s.ism.flight = none) →
         exec (.dcInletVoltageReading a v) s = .next (finish s u))
       ∧ (∀ m, v < 1000 → s.ism.flight = some m → m.sec ≠ .inlet →
         exec (.dcInletVoltageReading a v) s = .next (finish s u))
       ∧ (∀ m c, v < 1000 → s.ism.flight = some m → m.sec = .inlet → m.slot = .sequencer →
           s.seq.state = .isocheck → s.seq.ctx = some c →
         ∃ t, exec (.dcInletVoltageReading a v) s = .next (finish s
               (if 2 ≤ c.isocheckFailures then enterRelease .isocheckFail t else t))
           ∧ t.ism.flight = none
           ∧ t.ism.inlet = { s.ism.inlet with discarded := bump16 s.ism.inlet.discarded }
           ∧ t.ism.slotSeq = decide (c.isocheckFailures < 2)
           ∧ t.seq = { s.seq with
               ctx := some { c with isocheckFailures := c.isocheckFailures + 1 } })
       ∧ (∀ m, v < 1000 → s.ism.flight = some m → m.sec = .inlet →
           (m.slot ≠ .sequencer ∨ s.seq.state ≠ .isocheck) →
         exec (.dcInletVoltageReading a v) s = .next (finish s (u.withIsm { s.ism with
           flight := none
           inlet := { s.ism.inlet with discarded := bump16 s.ism.inlet.discarded }
           slotSeq := s.ism.slotSeq && decide (m.slot ≠ .sequencer)
           slotHeater := if m.slot = .heater then decide (s.htr.state = .check)
             else s.ism.slotHeater }))))

/-- R85, R77, R75 (the arbiter): with the network FREE and no scan to wake, the SEQUENCER slot's
INLET request is granted first when measurable, then the HEATER slot's, then the HOST slot's; with
the network occupied nothing is granted. A granted measurement begins settling phase A, with the
extra settling time for PACK while the contactors are commanded closed.

R86, R87, R90: the arbiter at the SCAN slot, with the network FREE and no earlier slot to grant. A
measurable step is measured. Any other is counted SKIPPED and the pass moves on: to the next
section, past last_section to the end of the pass, or in CONTINUOUS with a step measured to the next
pass; the arbiter then goes on from there. An idle CONTINUOUS scan starts its next pass at an
arrival that makes a section of it measurable, and at no other.

R71, R72, R90: PACK is measurable while PACK_LIVE is asserted, HEATER while HTR_SW is open, INLET
while DCC_CMD is open and the latest DC inlet voltage is at or above 1,000 dV. Log entries 8, 20. -/
def Obligations.TheArbiterServesTheSlotsInOrder : Prop :=
  (∀ before s : State, (s.ism.scan.mode ≠ .continuous ∨ s.ism.scan.busy = true
       ∨ becameMeasurable before s = false) →
     let settle (sec : Section) := match sec with
       | .pack => s.ism.settings.settlePack
           + (if s.seq.dccCmd then s.ism.settings.settlePackExtra else 0)
       | .heater => s.ism.settings.settleHeater
       | .inlet => s.ism.settings.settleInlet
     let started (slot : Slot) (sec : Section) (t : State) :=
       t.ism = { s.ism with flight := some {
           phase := .settleA, slot := slot, sec := sec, settle := settle sec
           phaseEnd := s.nowMs + settle sec, sumP := 0, sumN := 0, count := 0, meansA := none
           meansB := none } }
       ∧ t.alc.quiet = (s.alc.quiet || decide (sec = .pack))
     (s.ism.flight.isSome = true → arbiter before s = s)
     ∧ (s.ism.flight = none → s.ism.slotSeq = true → measurable s .inlet = true →
         started .sequencer .inlet (arbiter before s))
     ∧ (s.ism.flight = none → (s.ism.slotSeq = false ∨ measurable s .inlet = false) →
         s.ism.slotHeater = true → measurable s .heater = true →
         started .heater .heater (arbiter before s))
     ∧ (∀ sec, s.ism.flight = none → (s.ism.slotSeq = false ∨ measurable s .inlet = false) →
         (s.ism.slotHeater = false ∨ measurable s .heater = false) → s.ism.slotHost = some sec →
         measurable s sec = true → started .host sec (arbiter before s))
     ∧ (s.ism.flight = none → s.ism.slotSeq = false → s.ism.slotHeater = false →
         s.ism.slotHost = none → s.ism.scan.step = none → arbiter before s = s))
  ∧ (∀ before s : State,
       let scan := s.ism.scan
       let made := ∃ sec : Section, scan.first.num ≤ sec.num ∧ sec.num ≤ scan.last.num
         ∧ measurable s sec = true ∧ measurable before sec = false
       let wakes := scan.mode = .continuous ∧ scan.busy = false ∧ made
       let granted := (s.ism.slotSeq = true ∧ measurable s .inlet = true)
         ∨ (s.ism.slotHeater = true ∧ measurable s .heater = true)
         ∨ ∃ sec, s.ism.slotHost = some sec ∧ measurable s sec = true
       let pass := { scan with busy := true, step := some scan.first, measured := false }
       (wakes → ∃ t, t = s.withIsm { s.ism with scan := pass } ∧ arbiter before s = arbiter t t)
       ∧ (¬ wakes → arbiter before s = arbiter s s)
       ∧ (¬ wakes → s.ism.flight = none → ¬ granted → scan.step = none → arbiter before s = s)
       ∧ (∀ sec, ¬ wakes → s.ism.flight = none → ¬ granted → scan.step = some sec →
           measurable s sec = true →
         arbiter before s = startMeasurement .scan sec s
         ∧ ∃ m, (arbiter before s).ism = { s.ism with flight := some m } ∧ m.phase = .settleA
           ∧ m.slot = .scan ∧ m.sec = sec)
       ∧ (∀ sec, ¬ wakes → s.ism.flight = none → ¬ granted → scan.step = some sec →
           measurable s sec = false →
         let i := s.ism.withRecord sec { s.ism.record sec with
           skipped := bump16 (s.ism.record sec).skipped }
         let moved := if sec.num < scan.last.num then { scan with step := sec.next }
           else if scan.mode = .continuous ∧ scan.measured = true then pass
           else { scan with busy := false, step := none }
         ∃ t, t = s.withIsm { i with scan := moved } ∧ arbiter before s = arbiter t t))
  ∧ (∀ s : State,
       (measurable s .pack = true ↔ s.inputs.packLive = true)
         ∧ (measurable s .heater = true ↔ s.htr.switch = false)
         ∧ (measurable s .inlet = true ↔ s.seq.dccCmd = false ∧ 1000 ≤ s.mfe.dcInletVoltage)
         ∧ (∀ before : State, becameMeasurable before s = true ↔ ∃ sec : Section,
             s.ism.scan.first.num ≤ sec.num ∧ sec.num ≤ s.ism.scan.last.num
               ∧ measurable s sec = true ∧ measurable before sec = false)
         ∧ (∀ sec : Section,
             let t := startMeasurement .scan sec s
             let settle := match sec with
               | .pack => s.ism.settings.settlePack
                   + (if s.seq.dccCmd then s.ism.settings.settlePackExtra else 0)
               | .heater => s.ism.settings.settleHeater
               | .inlet => s.ism.settings.settleInlet
             t.ism = { s.ism with flight := some {
               phase := .settleA, slot := .scan, sec := sec, settle := settle
               phaseEnd := s.time / 1000 + settle, sumP := 0, sumN := 0, count := 0, meansA := none
               meansB := none } }
             ∧ t.alc.quiet = (s.alc.quiet || decide (sec = .pack))))

/-! ## Charge sessions -/

/-- R8 (SESSION_START refused): the checks in their order: an enumeration outside its set; SEQ not
in IDLE or no plug; the PACK level FAULT; the contactor latch for DC; an unknown account; a full
queue; the counter at its end. The reply carries the state, and nothing of the part changes. Log
entry 33. -/
def Obligations.SessionStartIsCheckedInOrder : Prop :=
  ∀ (a : Arrival) (f : SessionStartReq) (s : State), slotReady s = true →
    let refused (status : Byte) := exec (.sessionStart a f) s = .next (answered 0x12
      (status :: putU8 s.seq.state.code ++ putU32 0 ++ putU32 0) (taken a s))
    let ranged := 2 ≤ f.profile.toNat ∨ 2 ≤ f.policy.toNat
    let untimely := s.seq.state ≠ .idle ∨ s.inputs.plug = false
    let latched := s.ism.packLevel.level = .fault ∨ (s.seq.faultLatch = true ∧ f.profile.toNat = 1)
    let known := ∃ e ∈ s.bil.accounts, e.id = f.accountId.toNat
    (ranged → refused 4)
    ∧ (¬ ranged → untimely → refused 3)
    ∧ (¬ ranged → ¬ untimely → latched → refused 8)
    ∧ (¬ ranged → ¬ untimely → ¬ latched → ¬ known → refused 11)
    ∧ (¬ ranged → ¬ untimely → ¬ latched → known → freePlaces s = 0 → refused 7)
    ∧ (¬ ranged → ¬ untimely → ¬ latched → known → freePlaces s ≠ 0 →
        4294967295 ≤ s.bil.counter → refused 3)

/-- R9, R11, R143, R148, R150 (SESSION_START accepted, with no pack-heat run to supersede): while
the rest for the profile has not elapsed the start waits in WAITING_REST, with its account, profile,
policy, effective cap and expiry; otherwise the session opens in CONNECT with the next number, the
lock engaged, the offer record empty and a fresh billing record under the table then active.

R9, R7, R67, R68 (SESSION_START accepted while a pack-heat run is active): the run ends at this
instant with the cause SUPERSEDED, the request goes PENDING without a source, and the rest is
counted from it: the larger of heat_rest and turn_rest. While that is above 0 the start waits; at 0
the session opens.

R10, R11, R193 (REST_EXPIRY): when the rest has elapsed in WAITING_REST, with no warm restart
pending, the session of the pending start opens; otherwise nothing happens. Log entries 1, 8, 27,
30. -/
def Obligations.AStartWaitsOrOpensItsSession : Prop :=
  (∀ (a : Arrival) (f : SessionStartReq) (s : State) (p : Profile) (policy : Policy) (e : Account),
     slotReady s = true → profileOf f.profile = some p → policyOf f.policy = some policy →
     s.seq.state = .idle → s.inputs.plug = true → s.ism.packLevel.level ≠ .fault →
     (s.seq.faultLatch = false ∨ p = .ac) →
     s.bil.accounts.find? (fun q => q.id == f.accountId.toNat) = some e →
     freePlaces s ≠ 0 → s.bil.counter < 4294967295 → s.runActive = false →
     let now := s.time + a.elapsed
     let named := f.energyCap.toNat
     let cap : Option Nat := if named = 0 then (if e.capWh = 0 then none else some e.capWh)
       else some (if e.capWh = 0 then named else min named e.capWh)
     let status : Byte := if named ≠ 0 ∧ e.capWh ≠ 0 ∧ e.capWh < named then 1 else 0
     let due := s.seq.rest.endInstant + requiredRest s (.charge p)
     let table := s.bil.pendingTariff.getD s.bil.active
     (now / 1000 < due →
       ∃ t, exec (.sessionStart a f) s = .next (answered 0x12
             (status :: putU8 1 ++ putU32 (due - now / 1000) ++ putU32 0) (arbiter (taken a s) t))
         ∧ t.seq = { s.seq with
             state := .waitingRest
             pendingStart := some { account := f.accountId.toNat, profile := p, policy := policy
                                    cap := cap, expiry := due }
             ctx := s.seq.ctx.map fun c => { c with phaseEntry := now / 1000, rawChange := none } }
         ∧ t.bil = s.bil ∧ t.alc.offer = s.alc.offer
         ∧ (t.evt.at 7).latest = some (now / 1000, .sessionPhase .waitingRest none))
     ∧ (due ≤ now / 1000 →
       ∃ (t : State) (c : SessionContext),
         exec (.sessionStart a f) s = .next (answered 0x12
             (status :: putU8 2 ++ putU32 0 ++ putU32 (s.bil.counter + 1)) (arbiter (taken a s) t))
         ∧ t.seq = { s.seq with
             state := .connect, ctx := some c, lockCmd := true, pendingStart := none }
         ∧ c.sequence = s.bil.counter + 1 ∧ c.account = f.accountId.toNat ∧ c.profile = p
         ∧ c.policy = policy ∧ c.phaseEntry = now / 1000 ∧ c.energised = false ∧ c.endCause = none
         ∧ c.readyRaw = s.inputs.lockFb
         ∧ c.readyFiltered = (s.inputs.lockFb && (s.seq.common p).holdFilter == .direct)
         ∧ t.alc.offer = emptyOffer
         ∧ t.bil = { s.bil with
             counter := s.bil.counter + 1, active := table, pendingTariff := none
             openRec := some
               { sequence := s.bil.counter + 1, account := f.accountId.toNat, profile := p
                 policy := policy, billing := e.billing, cap := cap, generation := table.generation
                 start := s.bil.clock.read now, band := Vector.replicate 4 0
                 heaterBand := Vector.replicate 4 0, netPack := 0
                 untimed := !(s.bil.clock.read now).valid, partial_ := false, minIso := none } }
         ∧ (t.evt.at 7).latest = some (now / 1000, .sessionPhase .connect none)))
  ∧ (∀ (a : Arrival) (f : SessionStartReq) (s : State) (p : Profile) (policy : Policy) (e : Account)
         (r : HeatRequest) (run : RunRecord),
       slotReady s = true → profileOf f.profile = some p → policyOf f.policy = some policy →
       s.seq.state = .idle → s.inputs.plug = true → s.ism.packLevel.level ≠ .fault →
       (s.seq.faultLatch = false ∨ p = .ac) →
       s.bil.accounts.find? (fun q => q.id == f.accountId.toNat) = some e →
       freePlaces s ≠ 0 → s.bil.counter < 4294967295 →
       s.htr.request = some r → s.htr.run = some run → run.ended = none →
       let now := (s.time + a.elapsed) / 1000
       let named := f.energyCap.toNat
       let cap : Option Nat := if named = 0 then (if e.capWh = 0 then none else some e.capWh)
         else some (if e.capWh = 0 then named else min named e.capWh)
       let status : Byte := if named ≠ 0 ∧ e.capWh ≠ 0 ∧ e.capWh < named then 1 else 0
       let gap := max s.htr.settings.heatRest s.seq.settings.turnRest
       let ended (t : State) := t.htr.state = .pending
         ∧ t.htr.request = some { r with source := .none } ∧ t.htr.level = none
         ∧ (s.htr.state = .on → t.htr.switch = false)
         ∧ t.seq.rest = { s.seq.rest with kind := .packHeat, endInstant := now }
         ∧ ∃ last, t.htr.run = some last ∧ last.start = run.start
           ∧ last.ended = some (now, .superseded)
           ∧ (t.evt.at 8).latest = some (now, .heatState .pending .none none none (some last))
       (0 < gap → ∃ t, exec (.sessionStart a f) s = .next (answered 0x12
             (status :: putU8 1 ++ putU32 gap ++ putU32 0) (arbiter (taken a s) t))
         ∧ ended t ∧ t.seq.state = .waitingRest
         ∧ t.seq.pendingStart = some { account := f.accountId.toNat, profile := p, policy := policy
                                       cap := cap, expiry := now + gap }
         ∧ (t.evt.at 7).latest = some (now, .sessionPhase .waitingRest none))
       ∧ (gap = 0 → ∃ (t : State) (c : SessionContext), exec (.sessionStart a f) s = .next (answered 0x12
             (status :: putU8 2 ++ putU32 0 ++ putU32 (s.bil.counter + 1)) (arbiter (taken a s) t))
         ∧ ended t ∧ t.seq.state = .connect ∧ t.seq.ctx = some c ∧ t.seq.pendingStart = none
         ∧ c.sequence = s.bil.counter + 1 ∧ c.account = f.accountId.toNat ∧ c.profile = p
         ∧ c.policy = policy ∧ t.bil.counter = s.bil.counter + 1
         ∧ (t.evt.at 7).latest = some (now, .sessionPhase .connect none)))
  ∧ (∀ (a : Arrival) (s : State),
       let now := (s.time + a.elapsed) / 1000
       (∀ p, s.seq.pendingStart = some p → s.seq.state = .waitingRest → p.expiry ≤ now →
           s.lnk.restartPending = false →
         ∃ (t : State) (c : SessionContext), exec (.restExpiry a) s = .next (finish s t)
           ∧ t.seq.state = .connect ∧ t.seq.ctx = some c ∧ t.seq.pendingStart = none
           ∧ t.seq.lockCmd = true ∧ c.sequence = s.bil.counter + 1 ∧ c.account = p.account
           ∧ c.profile = p.profile ∧ c.policy = p.policy ∧ c.phaseEntry = now ∧ c.energised = false
           ∧ t.bil.counter = s.bil.counter + 1 ∧ t.alc.offer = emptyOffer
           ∧ (t.evt.at 7).latest = some (now, .sessionPhase .connect none))
       ∧ ((s.seq.pendingStart = none ∨ s.seq.state ≠ .waitingRest ∨ s.lnk.restartPending = true
           ∨ ∃ p, s.seq.pendingStart = some p ∧ now < p.expiry) →
         exec (.restExpiry a) s = .next (finish s (arrive a s))))

/-- R21 (SESSION_STOP): STATE in IDLE; in WAITING_REST the start is cancelled; in RELEASE OK with
nothing changed; in an open phase the session is released with the cause HOST_STOP, and the reply
carries RELEASE.

R10, R41, R60, R148: what a cancelled start leaves: IDLE with no start pending and the pending table
active, SESSION_PHASE raised, then the allocation and HTR's evaluation. Log entries 8, 25. -/
def Obligations.SessionStopEndsWhatIsOpen : Prop :=
  (∀ (a : Arrival) (s : State), slotReady s = true →
     (s.seq.state = .idle → exec (.sessionStop a) s
       = .next (answered 0x13 [3, 0] (arbiter (taken a s) (taken a s))))
     ∧ (s.seq.state = .waitingRest → exec (.sessionStop a) s
       = .next (answered 0x13 [0, 0] (arbiter (taken a s) (cancelStart (taken a s)))))
     ∧ (s.seq.state = .release → exec (.sessionStop a) s
       = .next (answered 0x13 [0, 7] (arbiter (taken a s) (taken a s))))
     ∧ (s.seq.state.isOpenPhase = true → exec (.sessionStop a) s
       = .next (answered 0x13 [0, 7] (arbiter (taken a s) (enterRelease .hostStop (taken a s))))))
  ∧ (∀ s : State, s.seq.ctx = none →
       cancelStart s = htrEvaluate (allocate (raise (.sessionPhase .idle none)
         ((s.withBil { s.bil with
             active := s.bil.pendingTariff.getD s.bil.active, pendingTariff := none }).withSeq
           { s.seq with state := .idle, pendingStart := none }))))

/-- R13, R15, R17 (LOCK_FB, OBC_RDY, PACK_LIVE and the voltages in the phases with a ready
condition): the condition is observed at the arrival; DIRECT takes it at once and CONFIRMED waits
for the confirm time from the last change; outside its phase a pin is only recorded. The voltages
are observed in PRECHARGE of a DC session, where PACK_LIVE stands beside their match, as it stands
beside OBC_RDY in an AC one.

R13 (CONFIRM_TIME_EXPIRY): when the confirm time has run since the last change, ready filtered takes
ready raw, and the phase may end; otherwise nothing happens.

R12, R13, R15, R16: the phase ends an observation can bring are those of PHASE_MINIMUM_ELAPSED.
Entry to PRECHARGE records its instant with ready filtered false, observes the condition, raises
SESSION_PHASE, and has the allocation and HTR's evaluation follow. Log entries 1, 12, 32, 35. -/
def Obligations.ReadyConditionsAreObservedAndFiltered : Prop :=
  (∀ (a : Arrival) (level : Bool) (s : State) (c : SessionContext), s.seq.ctx = some c →
     let u := arrive a s
     let now := (s.time + a.elapsed) / 1000
     let p := s.seq.common c.profile
     let seen (ready : Bool) (w : State) := w.withSeq { s.seq with ctx := some { c with
       readyRaw := ready
       rawChange := if ready = c.readyRaw then c.rawChange else some now
       readyFiltered := if p.holdFilter = .direct then ready else c.readyFiltered } }
     let matched (inlet pack : Nat) := decide (inlet ≤ pack + s.seq.dcOnly.matchWindow
       ∧ pack ≤ inlet + s.seq.dcOnly.matchWindow)
     (s.inputs.lockFb ≠ level → s.seq.state = .connect →
       exec (.lockFbChange a level) s = .next (finish s (tryEndPhase
         (seen level (u.withInputs { s.inputs with lockFb := level })))))
     ∧ (s.seq.state ≠ .connect → exec (.lockFbChange a level) s
         = .next (finish s (u.withInputs { s.inputs with lockFb := level })))
     ∧ (s.inputs.obcRdy ≠ level → s.seq.state = .precharge → c.profile = .ac →
       exec (.obcRdyChange a level) s = .next (finish s (tryEndPhase
         (seen (s.inputs.packLive && level) (u.withInputs { s.inputs with obcRdy := level })))))
     ∧ (s.seq.state ≠ .precharge → exec (.obcRdyChange a level) s
         = .next (finish s (u.withInputs { s.inputs with obcRdy := level })))
     ∧ (s.inputs.packLive ≠ level → s.seq.state = .precharge →
       exec (.packLiveChange a level) s = .next (finish s (htrEvaluate (tryEndPhase
         (seen (level && match c.profile with
             | .ac => s.inputs.obcRdy
             | .dc => matched s.mfe.dcInletVoltage s.mfe.packVoltage)
           (liveTopology (u.withInputs { s.inputs with packLive := level })))))))
     ∧ (∀ v, s.seq.state = .precharge →
       let w := u.withMfe { u.mfe with dcInletVoltage := v }
       let w := if v < 1000 then inletTopology w else w
       (c.profile = .dc → exec (.dcInletVoltageReading a v) s = .next (finish s (tryEndPhase
         (seen (s.inputs.packLive && matched v s.mfe.packVoltage) w))))
       ∧ (c.profile = .ac → exec (.dcInletVoltageReading a v) s = .next (finish s w)))
     ∧ (∀ v, s.seq.state = .precharge →
       let w := allocate (u.withMfe { u.mfe with packVoltage := v })
       (c.profile = .dc → exec (.packVoltageReading a v) s = .next (finish s (htrEvaluate (tryEndPhase
         (seen (s.inputs.packLive && matched s.mfe.dcInletVoltage v) w)))))
       ∧ (c.profile = .ac → exec (.packVoltageReading a v) s = .next (finish s (htrEvaluate w)))))
  ∧ (∀ (a : Arrival) (s : State) (c : SessionContext), s.seq.ctx = some c →
       let now := (s.time + a.elapsed) / 1000
       let p := s.seq.common c.profile
       let phase := s.seq.state = .connect ∨ s.seq.state = .precharge
       (∀ change, phase → p.holdFilter = .confirmed → c.rawChange = some change →
           change + p.confirmTime ≤ now →
         exec (.confirmTimeExpiry a) s = .next (finish s (tryEndPhase ((arrive a s).withSeq
           { s.seq with ctx := some { c with readyFiltered := c.readyRaw } }))))
       ∧ ((¬ phase ∨ p.holdFilter = .direct ∨ c.rawChange = none
           ∨ ∃ change, c.rawChange = some change ∧ now < change + p.confirmTime) →
         exec (.confirmTimeExpiry a) s = .next (finish s (arrive a s))))
  ∧ ((∀ (a : Arrival) (s : State),
       exec (.phaseMinimumElapsed a) s = .next (finish s (tryEndPhase (arrive a s))))
     ∧ (∀ (s : State) (c : SessionContext), s.seq.ctx = some c →
       let p := s.seq.common c.profile
       let inlet := s.mfe.dcInletVoltage
       let pack := s.mfe.packVoltage
       let ready := s.inputs.packLive && match c.profile with
         | .ac => s.inputs.obcRdy
         | .dc => decide (inlet ≤ pack + s.seq.dcOnly.matchWindow
             ∧ pack ≤ inlet + s.seq.dcOnly.matchWindow)
       (enterWaiting .precharge s = htrEvaluate (allocate ((raise (.sessionPhase .precharge none) s).withSeq
         { s.seq with
           state := .precharge
           ctx := some { c with
             phaseEntry := s.time / 1000, readyRaw := ready
             readyFiltered := ready && decide (p.holdFilter = .direct)
             rawChange := if ready then some (s.time / 1000) else none } })))
       ∧ (s.seq.state = .connect → c.readyFiltered = true →
           c.phaseEntry + p.connectMin ≤ s.time / 1000 →
           (c.profile = .ac ∨ s.seq.dc.isocheckEnable = false) →
           tryEndPhase s = enterWaiting .precharge s)))

/-- R12, R14, R15, R16, R18 (PHASE_MINIMUM_ELAPSED): once its minimum has elapsed with ready
filtered true, CONNECT ends in ISOCHECK on DC with the check enabled and in PRECHARGE otherwise, and
PRECHARGE ends in ENERGY with the power path closed and the gate open, from where a STALE offer
releases the session at once; before its minimum, while ready filtered is false and in every other
state nothing happens. Log entries 1, 30. -/
def Obligations.TheMinimumEndsAReadyPhase : Prop :=
  ∀ (a : Arrival) (s : State) (c : SessionContext), s.seq.ctx = some c →
    let now := (s.time + a.elapsed) / 1000
    let p := s.seq.common c.profile
    let next (t : State) := exec (.phaseMinimumElapsed a) s = .next (finish s t)
    (s.seq.state = .connect → c.readyFiltered = true → c.phaseEntry + p.connectMin ≤ now →
      (c.profile = .dc → s.seq.dc.isocheckEnable = true →
          (∀ m, s.ism.flight = some m → m.slot = .sequencer → m.sec = .inlet) →
        ∃ t, next t ∧ t.seq.state = .isocheck ∧ t.ism.slotSeq = true
          ∧ t.seq.ctx = some { c with phaseEntry := now, rawChange := none, isocheckFailures := 0 }
          ∧ (t.evt.at 7).latest = some (now, .sessionPhase .isocheck none))
      ∧ ((c.profile = .ac ∨ s.seq.dc.isocheckEnable = false) →
        ∃ t, next t ∧ t.seq.state = .precharge
          ∧ (t.evt.at 7).latest = some (now, .sessionPhase .precharge none)))
    ∧ (s.seq.state = .precharge → c.readyFiltered = true → c.phaseEntry + p.prechargeMin ≤ now →
        s.alc.offer.state ≠ .stale →
      ∃ t, next t ∧ t.seq.state = .energy ∧ t.mtr.gate = .opened
        ∧ t.seq.ctx = some { c with phaseEntry := now, rawChange := none, energised := true }
        ∧ (t.evt.at 7).latest = some (now, .sessionPhase .energy none)
        ∧ (c.profile = .dc → t.seq.dccCmd = true ∧ t.seq.check = (if s.inputs.dccFb then .passed
            else .closing (now + s.seq.settings.contactorCheck)))
        ∧ (c.profile = .ac → t.seq.obcEn = true))
    ∧ (s.seq.state = .precharge → c.readyFiltered = true → c.phaseEntry + p.prechargeMin ≤ now →
        s.alc.offer.state = .stale →
      ∃ t, next t ∧ t.seq.state = .release ∧ t.mtr.gate = .opened ∧ t.seq.check = .none
        ∧ t.seq.ctx = some { c with
            phaseEntry := now, rawChange := none, energised := true, endCause := some .offerStale }
        ∧ (t.evt.at 7).latest = some (now, .sessionPhase .release (some .offerStale))
        ∧ (c.profile = .dc → t.seq.dccCmd = true) ∧ (c.profile = .ac → t.seq.obcEn = true))
    ∧ ((s.seq.state = .connect ∨ s.seq.state = .precharge) → c.readyFiltered = false →
      next (arrive a s))
    ∧ (s.seq.state = .connect → now < c.phaseEntry + p.connectMin → next (arrive a s))
    ∧ (s.seq.state = .precharge → now < c.phaseEntry + p.prechargeMin → next (arrive a s))
    ∧ (s.seq.state ≠ .connect → s.seq.state ≠ .precharge → next (arrive a s))

/-- R14, R12, R16, R19: the commands that end an open session's phase, each with its cause: PLUG
absent in any open phase; PACK_LIVE deasserted in ENERGY and TAPER; the hold time out in CONNECT and
PRECHARGE; isocheck_max out in ISOCHECK; and the closing check out in ENERGY, which first sets the
contactor latch.

R10, R12, R14, R16, R25, R60, R81: the same commands where they end nothing. A plug that goes
outside an open phase and WAITING_REST, or comes, is only recorded; an absent plug in WAITING_REST
cancels the start; PACK_LIVE outside PRECHARGE, and asserted in ENERGY and TAPER, discards a PACK
measurement and has the heat request evaluated, and one that names the present level is nothing (log
entry 12); and timers not due, or of another phase, do nothing. Log entries 1, 12, 18, 32. -/
def Obligations.ArrivalsThatEndAPhaseOrLeaveIt : Prop :=
  (∀ (a : Arrival) (s : State) (c : SessionContext), s.seq.ctx = some c →
     let u := arrive a s
     let now := (s.time + a.elapsed) / 1000
     let p := s.seq.common c.profile
     (s.inputs.plug = true → s.seq.state.isOpenPhase = true →
       exec (.plugChange a false) s = .next (finish s (enterRelease .unplug
         (u.withInputs { s.inputs with plug := false }))))
     ∧ (s.inputs.packLive = true → s.seq.state.delivers = true →
       exec (.packLiveChange a false) s = .next (finish s (htrEvaluate (enterRelease .packOff
         (liveTopology (u.withInputs { s.inputs with packLive := false }))))))
     ∧ (s.seq.state = .connect → c.phaseEntry + p.connectMin + p.holdMax ≤ now →
       exec (.holdTimeout a) s = .next (finish s (enterRelease .holdTimeout u)))
     ∧ (s.seq.state = .precharge → c.phaseEntry + p.prechargeMin + p.holdMax ≤ now →
       exec (.holdTimeout a) s = .next (finish s (enterRelease .holdTimeout u)))
     ∧ (s.seq.state = .isocheck → c.phaseEntry + s.seq.dcOnly.isocheckMax ≤ now →
       exec (.isocheckTimeout a) s = .next (finish s (enterRelease .isocheckTimeout u)))
     ∧ (∀ due, s.seq.check = .closing due → due ≤ now →
       exec (.closingCheckExpiry a) s = .next (finish s (enterRelease .contactor
         (raise (.contactorFault .closeCheck false)
           (u.withSeq { s.seq with faultLatch := true }))))))
  ∧ (∀ (a : Arrival) (s : State),
       let u := arrive a s
       let now := (s.time + a.elapsed) / 1000
       ((s.seq.state = .idle ∨ s.seq.state = .release) →
         exec (.plugChange a false) s
           = .next (finish s (u.withInputs { s.inputs with plug := false })))
       ∧ (exec (.plugChange a true) s = .next (finish s (u.withInputs { s.inputs with plug := true })))
       ∧ (s.inputs.plug = true → s.seq.state = .waitingRest → s.runActive = false →
         ∃ t, exec (.plugChange a false) s = .next (finish s t)
           ∧ t.seq.state = .idle ∧ t.seq.pendingStart = none ∧ t.inputs.plug = false
           ∧ t.bil.active = s.bil.pendingTariff.getD s.bil.active ∧ t.bil.pendingTariff = none
           ∧ (t.evt.at 7).latest = some (now, .sessionPhase .idle none))
       ∧ (∀ level, s.inputs.packLive ≠ level → s.seq.state ≠ .precharge →
           (s.seq.state.delivers = false ∨ level = true) →
         exec (.packLiveChange a level) s = .next (finish s (htrEvaluate
           (liveTopology (u.withInputs { s.inputs with packLive := level })))))
       ∧ (exec (.packLiveChange a s.inputs.packLive) s = .next (finish s u))
       ∧ ((s.seq.state ≠ .connect ∧ s.seq.state ≠ .precharge) →
         exec (.holdTimeout a) s = .next (finish s u))
       ∧ (∀ c, s.seq.ctx = some c → s.seq.state = .connect →
           now < c.phaseEntry + (s.seq.common c.profile).connectMin + (s.seq.common c.profile).holdMax →
         exec (.holdTimeout a) s = .next (finish s u))
       ∧ (∀ c, s.seq.ctx = some c → s.seq.state = .precharge →
           now < c.phaseEntry + (s.seq.common c.profile).prechargeMin
             + (s.seq.common c.profile).holdMax →
         exec (.holdTimeout a) s = .next (finish s u))
       ∧ (s.seq.state ≠ .isocheck → exec (.isocheckTimeout a) s = .next (finish s u))
       ∧ (∀ c, s.seq.ctx = some c → now < c.phaseEntry + s.seq.dcOnly.isocheckMax →
         exec (.isocheckTimeout a) s = .next (finish s u))
       ∧ ((∀ due, s.seq.check = .closing due → now < due) →
         exec (.closingCheckExpiry a) s = .next (finish s u)))

/-- R18, R14, R22, R26 (DCC_FB change, OPENING_CHECK_EXPIRY): feedback that closes in time passes
the closing check; contactors seen open after it are the fault OPENED and release the session with
the cause CONTACTOR; an opening check passes when the feedback opens in time, and on its expiry the
contactors are welded, the lock stays held and the session still ends; unwatched feedback is only
recorded.

R22, R122, R155, R159: the end of RELEASE. The open record joins the queue as the closed one it
makes, with the clock's reading as its end; the residues are dropped, the pending table becomes
active, and SESSION_END, RECORD_READY and, at 4 free places or fewer, QUEUE_LOW are raised; SEQ is
in IDLE after a charge, and the allocation and HTR's evaluation follow. Log entries 1, 12, 13, 18.
-/
def Obligations.TheFeedbackIsWatched : Prop :=
  (∀ (a : Arrival) (s : State),
     let u := arrive a s
     let now := (s.time + a.elapsed) / 1000
     let closed := u.withInputs { s.inputs with dccFb := true }
     let opened := u.withInputs { s.inputs with dccFb := false }
     (∀ due, s.inputs.dccFb = false → s.seq.check = .closing due → now ≤ due →
       exec (.dccFbChange a true) s
         = .next (finish s (closed.withSeq { s.seq with check := .passed })))
     ∧ (s.inputs.dccFb = true → s.seq.check = .passed →
       exec (.dccFbChange a false) s = .next (finish s (enterRelease .contactor
         (raise (.contactorFault .opened false)
           (opened.withSeq { s.seq with faultLatch := true })))))
     ∧ (∀ due, s.inputs.dccFb = true → s.seq.check = .opening due → now ≤ due →
       exec (.dccFbChange a false) s
         = .next (finish s (finishRelease (opened.withSeq { s.seq with lockCmd := s.seq.lockHeld }))))
     ∧ (∀ due, s.seq.check = .opening due → due ≤ now →
       exec (.openingCheckExpiry a) s = .next (finish s (finishRelease
         (raise (.contactorFault .weld true)
           (u.withSeq { s.seq with faultLatch := true, lockHeld := true })))))
     ∧ ((∀ due, s.seq.check = .opening due → now < due) →
       exec (.openingCheckExpiry a) s = .next (finish s u))
     ∧ (s.seq.check = .none →
       exec (.dccFbChange a true) s = .next (finish s closed)
       ∧ exec (.dccFbChange a false) s = .next (finish s opened)))
  ∧ (∀ (s : State) (c : SessionContext) (r : OpenRecord) (cause : EndCause),
       s.seq.ctx = some c → c.endCause = some cause → s.bil.openRec = some r →
       let clock := s.bil.clock.read s.time
       let closed : ClosedRecord :=
         { sequence := r.sequence, account := r.account, profile := r.profile, policy := r.policy
           generation := r.generation, startDay := r.start.day, startSeconds := r.start.seconds
           endDay := clock.day, endSeconds := clock.seconds, endCause := cause, band := r.band
           heaterBand := r.heaterBand, netPack := r.netPack, cost := r.cost s.bil.active
           untimed := r.untimed || !clock.valid, partial_ := r.partial_, minIso := r.minIso }
       let u := (s.withBil { s.bil with
           queue := s.bil.queue ++ [closed], openRec := none
           active := s.bil.pendingTariff.getD s.bil.active, pendingTariff := none }).withMtr
         { s.mtr with residues := { inlet := 0, heater := 0, pack := 0 } }
       let u := raise (.recordReady r.sequence (s.bil.queue.length + 1))
         (raise (.sessionEnd r.sequence cause) u)
       let free := 32 - (s.bil.queue.length + 1)
       let u := if free ≤ 4 then raise (.queueLow free) u else u
       finishRelease s = htrEvaluate (allocate (raise (.sessionPhase .idle none) (u.withSeq
         { s.seq with
           state := .idle, ctx := none, check := .none
           rest := { kind := .charge, profile := c.profile, endInstant := s.time / 1000 } }))))

/-- R22, R23, R48, R18: entry to RELEASE. The end cause is recorded and raised, the taper ceiling
removed, a closing check abandoned and the setpoint and grant brought to 0. With energised yes the
power path stays as it is until the current has fallen; with energised no the session ends at once:
the lock is disengaged unless the latch holds it, the record joins the queue, and SEQ is in IDLE
after a charge. R16, R82: out of ISOCHECK the SEQUENCER slot is emptied, and a measurement in flight
for it discarded and counted; a request that only waits leaves the discard counts as they are. Log
entry 30. -/
def Obligations.ReleaseWaitsOrEndsAtOnce : Prop :=
  ∀ (cause : EndCause) (s : State) (c : SessionContext), s.seq.ctx = some c → s.runActive = false →
    let t := enterRelease cause s
    (s.seq.state = .isocheck → t.ism.slotSeq = false
      ∧ (s.ism.flight = none → ∀ sec, t.ism.record sec = s.ism.record sec)
      ∧ (∀ m, s.ism.flight = some m → m.slot = .sequencer → t.ism.flight = none
        ∧ ∀ sec, t.ism.record sec = if sec = m.sec then { s.ism.record sec with
            discarded := bump16 (s.ism.record sec).discarded } else s.ism.record sec))
    ∧ (c.energised = true →
      t.seq = { s.seq with
        state := .release, check := .none
        ctx := some { c with endCause := some cause, phaseEntry := s.nowMs, rawChange := none } }
      ∧ t.alc.ceiling = none ∧ t.alc.appliedSet = 0 ∧ t.alc.appliedGrant = none
      ∧ t.mtr.gate = s.mtr.gate ∧ t.bil = s.bil
      ∧ (t.evt.at 7).latest = some (s.nowMs, .sessionPhase .release (some cause)))
    ∧ (c.energised = false →
      t.seq = { s.seq with
        state := .idle, ctx := none, check := .none, lockCmd := s.seq.lockHeld
        rest := { kind := .charge, profile := c.profile, endInstant := s.nowMs } }
      ∧ t.alc.ceiling = none ∧ t.alc.appliedSet = 0 ∧ t.alc.pAvail = 0
      ∧ (∀ r, s.bil.openRec = some r → ∃ q, t.bil.queue = s.bil.queue ++ [q]
          ∧ q.sequence = r.sequence ∧ q.endCause = cause ∧ q.band = r.band
          ∧ q.cost = r.cost s.bil.active ∧ t.bil.openRec = none
          ∧ t.bil.active = s.bil.pendingTariff.getD s.bil.active ∧ t.bil.pendingTariff = none
          ∧ (t.evt.at 11).latest = some (s.nowMs, .sessionEnd r.sequence cause)
          ∧ (t.evt.at 12).latest
              = some (s.nowMs, .recordReady r.sequence (s.bil.queue.length + 1)))
      ∧ (t.evt.at 7).latest = some (s.nowMs, .sessionPhase .idle none))

/-- R22, steps 1 and 2 (PACK_CURRENT reading, RELEASE_MAX_EXPIRY): in RELEASE of an energised
session a current below release_current, or release_max out, opens the power path: the contactor
command opens and, while the feedback still reads closed, the opening check begins; or the charger
is disabled and the session ends. The metering gate closes with it. Otherwise nothing happens. Log
entry 1. -/
def Obligations.TheReleaseOpensThePowerPath : Prop :=
  ∀ (a : Arrival) (i : Int) (s : State) (c : SessionContext), s.seq.ctx = some c →
    let u := arrive a s
    let now := (s.time + a.elapsed) / 1000
    let p := s.seq.common c.profile
    let waits := s.seq.state = .release ∧ c.energised = true ∧ ∀ due, s.seq.check ≠ .opening due
    let opens (cmd : Instr) :=
      (c.profile = .dc → s.inputs.dccFb = true → ∃ t, exec cmd s = .next (finish s t)
        ∧ t.seq = { s.seq with
            dccCmd := false, check := .opening (now + s.seq.settings.contactorCheck) }
        ∧ t.mtr.gate = .closed)
      ∧ (c.profile = .dc → s.inputs.dccFb = false → ∃ t, exec cmd s = .next (finish s t)
        ∧ t.seq.state = .idle ∧ t.seq.ctx = none ∧ t.seq.dccCmd = false
        ∧ t.seq.lockCmd = s.seq.lockHeld ∧ t.mtr.gate = .closed)
      ∧ (c.profile = .ac → ∃ t, exec cmd s = .next (finish s t)
        ∧ t.seq.state = .idle ∧ t.seq.ctx = none ∧ t.seq.obcEn = false
        ∧ t.seq.lockCmd = s.seq.lockHeld ∧ t.mtr.gate = .closed)
    (waits → i < p.releaseCurrent → opens (.packCurrentReading a i))
    ∧ ((¬ waits ∨ (p.releaseCurrent : Int) ≤ i) →
      exec (.packCurrentReading a i) s = .next (finish s u))
    ∧ (waits → c.phaseEntry + p.releaseMax ≤ now → opens (.releaseMaxExpiry a))
    ∧ ((¬ waits ∨ now < c.phaseEntry + p.releaseMax) →
      exec (.releaseMaxExpiry a) s = .next (finish s u))

/-! ## Metering -/

/-- R128: the whole mWh and the new residue of a channel add up, with no energy lost, to its old
residue and its power times the duration; the residue stays below one mWh.

R129: over every sample of an open session the band energies and the INLET residue grow together by
exactly the INLET power times the duration.

R120, R130: the close of an interval as each of its kinds. A close at the interval's own start forms
no sample; any other forms one with the duration, the cycles counted, the powers and its
destination: the session while the gate is OPEN, else the active run, else none.

R118, R152, R93: the means are brought into their channels' ranges, the totals stop at their 32-bit
limits, where a signed one then stays (log entry 34), and a 16-bit count stops at 65,535. Log
entries 15, 24, 34. -/
def Obligations.NoEnergyIsLost : Prop :=
  (∀ (residue d : Nat) (p : Int),
     let r := energyOf residue p d
     r.1 * 3600000 + (r.2 : Int) = (residue : Int) + p * (d : Int) ∧ r.2 < 3600000
       ∧ (0 ≤ p → 0 ≤ r.1))
  ∧ (∀ (kind : SampleKind) (s : State) (r : OpenRecord), s.mtr.gate = .opened →
       s.bil.openRec = some r → s.mtr.intervalStart < s.time →
       ∃ q, (closeInterval kind s).bil.openRec = some q
         ∧ (bandSum q.band * 3600000 + (closeInterval kind s).mtr.residues.inlet : Int)
           = bandSum r.band * 3600000 + s.mtr.residues.inlet
             + (clampPowers s.mfe.means).inlet * ((s.time - s.mtr.intervalStart : Nat) : Int))
  ∧ (∀ (kind : SampleKind) (s : State),
       let t := closeInterval kind s
       t.mtr.intervalStart = s.time ∧ t.mtr.gate = s.mtr.gate ∧ t.mtr.timing = s.mtr.timing
         ∧ t.seq = s.seq ∧ t.alc = s.alc ∧ t.ism = s.ism ∧ t.evt = s.evt ∧ t.lnk = s.lnk
         ∧ (s.time ≤ s.mtr.intervalStart → t.mtr.lastSample = s.mtr.lastSample
             ∧ t.mtr.residues = s.mtr.residues ∧ t.bil = s.bil ∧ t.htr = s.htr)
         ∧ (s.mtr.intervalStart < s.time → t.mtr.lastSample = some
             { endUs := s.time, duration := s.time - s.mtr.intervalStart
               cycles := match s.mtr.timing with
                 | .timed => none
                 | .mains c _ => some c
               kind := kind, powers := clampPowers s.mfe.means
               destination := if s.mtr.gate = .opened then .session
                 else if s.runActive then .run else .none })
         ∧ (s.mtr.intervalStart < s.time → s.mtr.gate = .closed → s.runActive = false →
             t.mtr.residues = s.mtr.residues ∧ t.bil = s.bil ∧ t.htr = s.htr)
         ∧ (∀ run, s.mtr.intervalStart < s.time → s.mtr.gate = .closed → s.htr.run = some run →
             run.ended = none →
             let d := s.time - s.mtr.intervalStart
             let heater := energyOf s.mtr.residues.heater (clampPowers s.mfe.means).heater d
             let pack := energyOf s.mtr.residues.pack (-(clampPowers s.mfe.means).pack) d
             t.bil = s.bil
             ∧ t.mtr.residues = { s.mtr.residues with heater := heater.2, pack := pack.2 }
             ∧ t.htr = { s.htr with run := some { run with
                 packEnergy := addI32 run.packEnergy pack.1
                 heaterEnergy := addU32 run.heaterEnergy heater.1.toNat } }))
  ∧ ((∀ p : Powers,
       (clampPowers p).inlet = max 0 (min p.inlet 500000)
         ∧ (clampPowers p).heater = max 0 (min p.heater 20000)
         ∧ (clampPowers p).pack = max (-500000) (min p.pack 500000))
     ∧ (∀ x y : Nat, addU32 x y = min (x + y) 4294967295)
     ∧ (∀ x y : Int,
       (-2147483648 < x → x < 2147483647 → addI32 x y = max (-2147483648) (min (x + y) 2147483647))
         ∧ ((x ≤ -2147483648 ∨ 2147483647 ≤ x) → addI32 x y = x))
     ∧ (∀ v : Vector Nat 4, bandSum v = v[0] + v[1] + v[2] + v[3])
     ∧ (∀ n : Nat, bump16 n = if n < 65535 then n + 1 else n))

/-- R119, R120, R123, R130, R131, R151 (TIMED_INTERVAL_END): in TIMED timing with the gate OPEN, an
interval of 200,000 µs or more closes into a FULL sample of the session. Its energies are added to
the band of its end and to the net pack energy, the residues carry over, and the next interval
starts at the same instant.

R119, R120, R123, R130, R133 (TIMED_INTERVAL_END in its other cases): before the interval has lasted
200,000 µs, and in MAINS timing, nothing happens. With the gate CLOSED the interval closes into a
FULL sample all the same: of the active run, whose heater energy and pack energy (the PACK channel
with its sign reversed) it is added to, with their residues carried over; or, with no run active, of
no destination, with no energy counted and the residues as they were. Neither reaches the session's
record, and with SEQ outside ENERGY and TAPER the cap test does nothing.

R152, R153, R14: the cap test after an INLET sample of the session. The limit is the effective cap,
or 4,000,000 Wh where there is none or it is higher, in mWh; once the four band energies together
reach it a session in ENERGY or TAPER is released with the cause CAP. Log entries 1, 15, 24, 34. -/
def Obligations.ATimedIntervalIsBilledToTheSession : Prop :=
  (∀ (a : Arrival) (s : State) (r : OpenRecord), s.mtr.timing = .timed →
     s.mtr.intervalStart + 200000 ≤ s.time + a.elapsed → s.mtr.gate = .opened →
     s.bil.openRec = some r →
     let now := s.time + a.elapsed
     let d := now - s.mtr.intervalStart
     let p := clampPowers a.means
     let inlet := energyOf s.mtr.residues.inlet p.inlet d
     let heater := energyOf s.mtr.residues.heater p.heater d
     let pack := energyOf s.mtr.residues.pack p.pack d
     let clock := s.bil.clock.read now
     ∃ (t : State) (q : OpenRecord),
       exec (.timedIntervalEnd a) s = .next (finish s (capTest t))
       ∧ t = ((arrive a s).withMtr
           { gate := .opened, intervalStart := now, timing := .timed
             residues := { inlet := inlet.2, heater := heater.2, pack := pack.2 }
             lastSample := some
               { endUs := now, duration := d, cycles := none, kind := .full, powers := p
                 destination := .session } }).withBil { s.bil with openRec := some q }
       ∧ (∀ b : Fin 4, q.band[b] = r.band[b]
           + if b = bandOf s.bil.active clock then inlet.1.toNat else 0)
       ∧ (∀ b : Fin 4, q.heaterBand[b] = if b = bandOf s.bil.active clock then
           addU32 r.heaterBand[b] heater.1.toNat else r.heaterBand[b])
       ∧ q.netPack = addI32 r.netPack pack.1
       ∧ q.untimed = (r.untimed || !clock.valid) ∧ q.partial_ = r.partial_
       ∧ q.sequence = r.sequence ∧ q.cap = r.cap ∧ q.minIso = r.minIso)
  ∧ (∀ (a : Arrival) (s : State),
       let now := s.time + a.elapsed
       let d := now - s.mtr.intervalStart
       let p := clampPowers a.means
       let heater := energyOf s.mtr.residues.heater p.heater d
       let pack := energyOf s.mtr.residues.pack (-p.pack) d
       let closed (dest : Destination) (residues : Residues) := (arrive a s).withMtr
         { gate := .closed, intervalStart := now, timing := .timed, residues := residues
           lastSample := some { endUs := now, duration := d, cycles := none, kind := .full, powers := p
                                destination := dest } }
       let ends (t : State) := exec (.timedIntervalEnd a) s = .next (finish s (capTest t))
         ∧ (s.seq.state.delivers = false → capTest t = t)
       let due := s.mtr.timing = .timed ∧ s.mtr.intervalStart + 200000 ≤ now
       (¬ due → exec (.timedIntervalEnd a) s = .next (finish s (arrive a s)))
       ∧ (due → exec (.timedIntervalEnd a) s
           = .next (finish s (capTest (closeInterval .full (arrive a s)))))
       ∧ (due → s.mtr.gate = .closed → s.runActive = false → ends (closed .none s.mtr.residues))
       ∧ (∀ run, due → s.mtr.gate = .closed → s.htr.run = some run → run.ended = none →
         ends ((closed .run { s.mtr.residues with heater := heater.2, pack := pack.2 }).withHtr
           { s.htr with run := some { run with
               packEnergy := addI32 run.packEnergy pack.1
               heaterEnergy := addU32 run.heaterEnergy heater.1.toNat } })))
  ∧ (∀ (s : State) (r : OpenRecord), s.bil.openRec = some r →
       let limit := (match r.cap with
         | some wh => if wh < 4000000 then wh else 4000000
         | none => 4000000) * 1000
       let total := r.band[0] + r.band[1] + r.band[2] + r.band[3]
       let delivers := s.seq.state = .energy ∨ s.seq.state = .taper
       (limit ≤ total → delivers → capTest s = enterRelease .cap s)
       ∧ ((total < limit ∨ ¬ delivers) → capTest s = s))

/-- R124, R125 (ZERO_CROSSING): a crossing is counted while the gate is OPEN in an AC session, and
is nothing otherwise. The first closes the TIMED interval as a BOUNDARY and starts MAINS timing;
each later one completes a cycle; the tenth cycle closes the interval as FULL and starts the next.

R126, R127, R14 (MAINS_LOSS): 50,000 µs after the last crossing the interval closes as PARTIAL with
the cause mains loss, TIMED timing resumes, MAINS_LOSS is raised with the cycles and the duration,
and a session in ENERGY or TAPER ends with cause MAINS_LOSS. Earlier, or in TIMED timing, nothing
happens. Log entry 1. -/
def Obligations.MainsTimingFollowsTheCrossings : Prop :=
  (∀ (a : Arrival) (s : State),
     let now := s.time + a.elapsed
     let timed (u : State) (cycles : Nat) := u.withMtr { u.mtr with timing := .mains cycles now }
     ((s.mtr.gate = .closed ∨ s.acSession = false) →
       exec (.zeroCrossing a) s = .next (finish s (arrive a s)))
     ∧ (s.mtr.gate = .opened → s.acSession = true →
       (s.mtr.timing = .timed → exec (.zeroCrossing a) s
         = .next (finish s (capTest (timed (closeInterval .boundary (arrive a s)) 0))))
       ∧ (∀ cycles last, s.mtr.timing = .mains cycles last → cycles < 9 →
         exec (.zeroCrossing a) s = .next (finish s (timed (arrive a s) (cycles + 1))))
       ∧ (∀ cycles last, s.mtr.timing = .mains cycles last → 9 ≤ cycles →
         exec (.zeroCrossing a) s = .next (finish s (capTest
           (timed (closeInterval .full (timed (arrive a s) (cycles + 1))) 0))))))
  ∧ (∀ (a : Arrival) (s : State),
       let now := s.time + a.elapsed
       (∀ cycles last, s.mtr.timing = .mains cycles last → s.mtr.gate = .opened → last + 50000 ≤ now →
         ∃ u t, u = closeInterval .mainsLoss (arrive a s)
           ∧ t = raise (.mainsLoss cycles (now - s.mtr.intervalStart))
               (capTest (u.withMtr { u.mtr with timing := .timed }))
           ∧ exec (.mainsLoss a) s = .next (finish s
               (if t.seq.state = .energy ∨ t.seq.state = .taper then enterRelease .mainsLoss t else t)))
       ∧ ((s.mtr.timing = .timed ∨ s.mtr.gate = .closed
           ∨ ∃ cycles last, s.mtr.timing = .mains cycles last ∧ now < last + 50000) →
         exec (.mainsLoss a) s = .next (finish s (arrive a s))))

/-! ## Accounts, tariffs and records -/

/-- R138 (TIME_SET): seconds beyond 86,399 are RANGE; otherwise the clock is valid from this instant
with the day and seconds given, and the reply carries its reading just before.

R137: a reading is the setting advanced by the whole seconds since, the day counting on at midnight
and wrapping after 65,535. -/
def Obligations.TheClockIsSetAndAdvances : Prop :=
  (∀ (a : Arrival) (f : TimeSetReq) (s : State), slotReady s = true →
     let before := s.bil.clock.read (s.time + a.elapsed)
     exec (.timeSet a f) s = .next
       (if f.seconds.toNat ≤ 86399 then
         answered 0x48
           (0 :: putU8 (if before.valid then 1 else 0) ++ putU16 before.day ++ putU32 before.seconds)
           ((taken a s).withBil { s.bil with
             clock := { valid := true, setDay := f.day.toNat, setSeconds := f.seconds.toNat
                        setInstant := s.time + a.elapsed } })
       else answered 0x48 [4] (taken a s)))
  ∧ (∀ (c : Clock) (t : Nat),
       (c.read t).valid = c.valid ∧ (c.read t).seconds < 86400 ∧ (c.read t).day < 65536
         ∧ ∃ wraps, (c.read t).day * 86400 + (c.read t).seconds + wraps * (65536 * 86400)
             = c.setDay * 86400 + c.setSeconds + (t - c.setInstant) / 1000000)

/-- R141 (ACCOUNT_SET): the checks in their order, RANGE, STATE for an account in use, FULL;
otherwise the entry is added or replaced whole, and every other account's entry stands.

R142 (ACCOUNT_CLEAR): NOT_FOUND, then STATE for an account in use; otherwise the entry is removed.
-/
def Obligations.AccountsAreAddedReplacedAndRemoved : Prop :=
  (∀ (a : Arrival) (f : AccountSetReq) (s : State), slotReady s = true →
     let fails := f.id.toNat = 0 ∨ 1000000 < f.capWh.toNat ∨ 2 ≤ f.heaterBilling.toNat
     let inUse := (∃ c, s.seq.ctx = some c ∧ c.account = f.id.toNat)
       ∨ (∃ p, s.seq.pendingStart = some p ∧ p.account = f.id.toNat)
     let known := ∃ e ∈ s.bil.accounts, e.id = f.id.toNat
     (fails → exec (.accountSet a f) s = .next (answered 0x49 [4] (taken a s)))
     ∧ (¬ fails → inUse → exec (.accountSet a f) s
         = .next (answered 0x49 (3 :: putU8 s.bil.accounts.length) (taken a s)))
     ∧ (¬ fails → ¬ inUse → ¬ known → 16 ≤ s.bil.accounts.length → exec (.accountSet a f) s
         = .next (answered 0x49 (7 :: putU8 s.bil.accounts.length) (taken a s)))
     ∧ (¬ fails → ¬ inUse → (known ∨ s.bil.accounts.length < 16) →
       ∃ table : List Account,
         exec (.accountSet a f) s = .next (answered 0x49 (0 :: putU8 table.length)
           ((taken a s).withBil { s.bil with accounts := table }))
         ∧ table.find? (fun e => e.id == f.id.toNat)
             = some { id := f.id.toNat, capWh := f.capWh.toNat
                      billing := if f.heaterBilling.toNat = 1 then .operator else .account }
         ∧ (∀ id, id ≠ f.id.toNat →
             table.find? (fun e => e.id == id) = s.bil.accounts.find? (fun e => e.id == id))
         ∧ (known → table.length = s.bil.accounts.length)
         ∧ (¬ known → table.length = s.bil.accounts.length + 1)))
  ∧ (∀ (a : Arrival) (f : AccountClearReq) (s : State), slotReady s = true →
       let inUse := (∃ c, s.seq.ctx = some c ∧ c.account = f.id.toNat)
         ∨ (∃ p, s.seq.pendingStart = some p ∧ p.account = f.id.toNat)
       let known := ∃ e ∈ s.bil.accounts, e.id = f.id.toNat
       (¬ known → exec (.accountClear a f) s
           = .next (answered 0x4A (11 :: putU8 s.bil.accounts.length) (taken a s)))
       ∧ (known → inUse → exec (.accountClear a f) s
           = .next (answered 0x4A (3 :: putU8 s.bil.accounts.length) (taken a s)))
       ∧ (known → ¬ inUse →
         ∃ table : List Account,
           exec (.accountClear a f) s = .next (answered 0x4A (0 :: putU8 table.length)
             ((taken a s).withBil { s.bil with accounts := table }))
           ∧ table.find? (fun e => e.id == f.id.toNat) = none
           ∧ (∀ id, id ≠ f.id.toNat →
               table.find? (fun e => e.id == id) = s.bil.accounts.find? (fun e => e.id == id))))

/-- R146, R147 (TARIFF_LOAD): a table that fails is RANGE and nothing is loaded. Otherwise it
becomes the active table with the next generation while no session is open and no start waits, and
else the pending table, which a further load replaces under the same generation. -/
def Obligations.TariffLoadPlacesTheTable : Prop :=
  ∀ (a : Arrival) (f : TariffLoadReq) (s : State), slotReady s = true →
    (¬ tariffPass f → exec (.tariffLoad a f) s = .next (answered 0x4B
        (4 :: putU8 s.bil.active.generation ++ putU8 (if s.bil.pendingTariff.isSome then 1 else 0)
          ++ putU8 ((s.bil.pendingTariff.map Tariff.generation).getD 0) ++ putU8 2) (taken a s)))
    ∧ (tariffPass f →
      ∃ table : Tariff,
        table.windows.map (fun w => (w.1, w.2.val))
            = f.windows.map (fun w => (w.1.toNat, w.2.toNat))
        ∧ table.prices = #v[f.price0.toNat, f.price1.toNat, f.price2.toNat, f.price3.toNat]
        ∧ table.generation = (match s.bil.pendingTariff with
            | some p => p.generation
            | none => (s.bil.active.generation + 1) % 256)
        ∧ ((s.seq.ctx.isSome = true ∨ s.seq.pendingStart.isSome = true) →
          exec (.tariffLoad a f) s = .next (answered 0x4B
            (0 :: putU8 s.bil.active.generation ++ putU8 1 ++ putU8 table.generation ++ putU8 1)
            ((taken a s).withBil { s.bil with pendingTariff := some table })))
        ∧ (s.seq.ctx = none → s.seq.pendingStart = none →
          exec (.tariffLoad a f) s = .next (answered 0x4B
            (0 :: putU8 table.generation ++ putU8 0 ++ putU8 0 ++ putU8 0)
            ((taken a s).withBil { s.bil with active := table, pendingTariff := none }))))

/-- R156: the cost is the billable energy of each band at its price, to the nearest milli-unit with
a half going up, stopping at 4,294,967,295; an OPERATOR session's billable energy leaves out the
heater's.

R145: with a valid clock the band is that of the last window starting at or before the minute of
day, or the last window's before the first start; with an invalid clock it is band 0. Log entry 17.
-/
def Obligations.TheBandAndTheCostOfARecord : Prop :=
  (∀ (r : OpenRecord) (t : Tariff),
     let due (b : Fin 4) : Nat :=
       if r.billing = .operator then r.band[b] - r.heaterBand[b] else r.band[b]
     let x := due 0 * t.prices[0] + due 1 * t.prices[1] + due 2 * t.prices[2] + due 3 * t.prices[3]
     (x + 500 < 4294967296000 → r.cost t * 1000 ≤ x + 500 ∧ x + 500 < r.cost t * 1000 + 1000)
     ∧ (4294967296000 ≤ x + 500 → r.cost t = 4294967295))
  ∧ (∀ (t : Tariff) (r : ClockReading),
       (t.windows.map (·.1)).Pairwise (· < ·) →
       (r.valid = false → bandOf t r = 0)
       ∧ (∀ w ∈ t.windows, r.valid = true → w.1 ≤ r.seconds / 60 →
           (∀ v ∈ t.windows, v.1 ≤ r.seconds / 60 → v.1 ≤ w.1) → bandOf t r = w.2)
       ∧ (∀ w, r.valid = true → t.windows.getLast? = some w →
           (∀ v ∈ t.windows, r.seconds / 60 < v.1) → bandOf t r = w.2))

/-- R161 (RECORD_DROP): an empty queue is NO_RECORD and a number other than the oldest record's is
MISMATCH, with nothing changed; otherwise the oldest record alone is removed. Every reply carries
the counts and the oldest number after the request.

R163 (SEQ_BASE_SET): with the queue empty and SEQ in IDLE the counter takes the base; otherwise
STATE and the counter stands. The reply carries the counter after it. -/
def Obligations.RecordDropAndSeqBaseSet : Prop :=
  (∀ (a : Arrival) (f : RecordDropReq) (s : State), slotReady s = true →
     (s.bil.queue = [] → exec (.recordDrop a f) s = .next (answered 0x4D
         (9 :: putU8 0 ++ putU8 (freePlaces s) ++ putU32 0) (taken a s)))
     ∧ (∀ q rest, s.bil.queue = q :: rest →
       (f.sequence.toNat ≠ q.sequence → exec (.recordDrop a f) s = .next (answered 0x4D
         (10 :: putU8 (rest.length + 1) ++ putU8 (freePlaces s) ++ putU32 q.sequence) (taken a s)))
       ∧ (f.sequence.toNat = q.sequence →
         ∃ t, t = (taken a s).withBil { s.bil with queue := rest }
           ∧ exec (.recordDrop a f) s = .next (answered 0x4D
             (0 :: putU8 rest.length ++ putU8 (freePlaces t)
               ++ putU32 (match rest with
                 | [] => 0
                 | q' :: _ => q'.sequence)) t))))
  ∧ (∀ (a : Arrival) (f : SeqBaseSetReq) (s : State), slotReady s = true →
       (s.bil.queue = [] → s.seq.state = .idle → exec (.seqBaseSet a f) s = .next
         (answered 0x4E (0 :: putWord f.base)
           ((taken a s).withBil { s.bil with counter := f.base.toNat })))
       ∧ ((s.bil.queue ≠ [] ∨ s.seq.state ≠ .idle) → exec (.seqBaseSet a f) s = .next
         (answered 0x4E (3 :: putU32 s.bil.counter) (taken a s))))

/-! ## Events -/

/-- R167: what a raise does to its kind's record, in its four steps; every other kind and everything
else of the part stand as they were.

R166, R169, R170, R196: the pending set and the owed set carry kind n in bit n, and ALERT is active
exactly when some pending kind is routed to it. -/
def Obligations.ARaiseTakesItsFourSteps : Prop :=
  (∀ (d : EventData) (s : State),
     let k := d.kind.num
     let old := s.evt.at k
     (raise d s).evt.at k =
         { pending := true
           count := if old.count < 255 then old.count + 1 else old.count
           route := old.route
           owed := old.owed || (!old.pending && (old.route == .notice || old.route == .both))
           latest := some (s.time / 1000, d) }
       ∧ (∀ j : Fin 14, j ≠ k → (raise d s).evt.at j = s.evt.at j)
       ∧ raise d s = s.withEvt (raise d s).evt)
  ∧ (∀ e : Evt,
       (∀ k : Fin 14, e.pendingSet.testBit k = (e.at k).pending ∧ e.owedSet.testBit k = (e.at k).owed)
       ∧ e.pendingSet < 2 ^ 14 ∧ e.owedSet < 2 ^ 14
       ∧ (e.alert = true ↔ ∃ k : Fin 14, (e.at k).pending = true
           ∧ ((e.at k).route = .alert ∨ (e.at k).route = .both)))

/-- R173 (ROUTE_SET): a mask with bit 14 or 15 or a route above 3 is RANGE. Otherwise each named
kind takes the route, and an owed notice that the route does not include is withdrawn; pending and
count stand. The reply carries the two sets and ALERT as they stand after it.

R174 (EVENTS_CLEAR): a mask with bit 14 or 15 is RANGE. Otherwise the reply carries the fourteen
counts and the pending set as they stood and the pending set after, and each named kind is cleared
whole but for its route. -/
def Obligations.RoutesAndClearsTouchTheNamedKinds : Prop :=
  (∀ (a : Arrival) (f : RouteSetReq) (s : State), slotReady s = true →
     ((2 ^ 14 ≤ f.kinds.toNat ∨ 4 ≤ f.route.toNat) →
       exec (.routeSet a f) s = .next (answered 0x58 [4] (taken a s)))
     ∧ (∀ route, f.kinds.toNat < 2 ^ 14 → routeOf f.route = some route →
       ∃ e : Evt,
         exec (.routeSet a f) s = .next (answered 0x58
           (0 :: putU16 e.pendingSet ++ putU16 e.owedSet ++ putU8 (if e.alert then 1 else 0))
           ((taken a s).withEvt e))
         ∧ ∀ k : Fin 14, e.at k =
             if f.kinds.getLsbD k then
               { s.evt.at k with
                 route := route
                 owed := (s.evt.at k).owed && (route == .notice || route == .both) }
             else s.evt.at k))
  ∧ (∀ (a : Arrival) (f : EventsClearReq) (s : State), slotReady s = true →
       (2 ^ 14 ≤ f.kinds.toNat →
         exec (.eventsClear a f) s = .next (answered 0x59 [4] (taken a s)))
       ∧ (f.kinds.toNat < 2 ^ 14 →
         ∃ (e : Evt) (counts : List Byte), counts.length = 14
           ∧ (∀ k : Fin 14, counts[k.val]? = some (byteOf (s.evt.at k).count))
           ∧ exec (.eventsClear a f) s = .next (answered 0x59
               (0 :: counts ++ putU16 s.evt.pendingSet ++ putU16 e.pendingSet) ((taken a s).withEvt e))
           ∧ ∀ k : Fin 14, e.at k =
               if f.kinds.getLsbD k then
                 { pending := false, count := 0, route := (s.evt.at k).route, owed := false
                   latest := none }
               else s.evt.at k))

/-! ## The link, the step and the resets -/

/-- The step takes the command at the front of the queue and runs it on the state with the queue's
rest. Log entry 4. -/
def Obligations.StepTakesTheFrontCommand : Prop :=
  ∀ (c : Instr) (rest : List Instr) (s : State), s.pending = c :: rest →
    step s = exec c (s.withPending rest)

/-- Every command, in every state, takes the part to a next state and leaves the queue as it is. Log
entry 4. -/
def Obligations.EveryCommandRunsAndKeepsTheQueue : Prop :=
  ∀ (c : Instr) (s : State), ∃ t, exec c s = .next t ∧ t.pending = s.pending

/-- Section 10.5, R197: the payload of every well-formed request fits a frame and reads back as the
request, with every field at every value its width admits. -/
def Obligations.EveryWellFormedPayloadReadsBack : Prop :=
  ∀ r : Request, r.wellFormed = true →
    r.payload.length ≤ 96 ∧ parseRequest r.kind r.payload = .request r

/-- R178 to R183: the bytes of a well-formed request frame, the first arriving in HUNT, equally
spaced by at most 2,000 µs, each with the same channel means, while the outbound side has nothing to
take, do exactly what the request does as one command at the last byte's arrival. Log entries 5, 7.
-/
def Obligations.BytesActAsTheRequest : Prop :=
  ∀ (a : Arrival) (r : Request) (s : State), r.wellFormed = true → s.lnk.rx = .hunt → pump s = s →
    a.elapsed ≤ 2000 →
    feedBytes a (frameBytes r.kind r.payload) s
      = exec (commandOf
          { a with elapsed := a.elapsed * (frameBytes r.kind r.payload).length } r) s

/-- R184: a request that completes while another occupies the slot, or while a warm restart is
pending, is counted busy and owed a BUSY; its owner sees nothing of it.

R185: a request that completes while a BUSY is owed is discarded, counted and raises LINK_ERROR. Log
entry 7. -/
def Obligations.RequestsBeyondTheFirst : Prop :=
  (∀ (a : Arrival) (r : Request) (s : State), s.lnk.owedBusy = none →
     (s.lnk.slot.isSome = true ∨ s.lnk.restartPending = true) →
     exec (commandOf a r) s = .next (pump ((arrive a s).withLnk
       { s.lnk with
         owedBusy := some r.kind
         counts := { s.lnk.counts with busy := bump16 s.lnk.counts.busy } })))
  ∧ (∀ (a : Arrival) (r : Request) (s : State), s.lnk.owedBusy.isSome = true →
       exec (commandOf a r) s = .next (pump (raise (.linkError .overrun) ((arrive a s).withLnk
         { s.lnk with counts := { s.lnk.counts with overruns := bump16 s.lnk.counts.overruns } }))))

/-- R179: what one byte does in each state of the receive assembler, when no gap has passed: the
state it leads to and what that state holds. A frame whose check matches completes at the request
slot.

R180, R181: the three receive errors. Each discards the frame, counts its reason and raises
LINK_ERROR with it; a byte that comes after the gap is taken in HUNT, and a gap timer that is not
due does nothing.

R183, R196, R197 and section 10.3 (the last byte of a frame whose check matches, with the slot
ready): a kind that the table of requests does not hold is answered UNKNOWN; a payload length the
table does not allow for its kind is answered LENGTH; either way the frame is counted as taken and
nothing else changes. A frame whose kind and length are allowed is a request, and does what that
request does as one command. A SESSION_START of 6 bytes is one whose energy_cap is 0. Log entries 1,
5, 7. -/
def Obligations.TheReceiveAssemblerFollowsItsTable : Prop :=
  (∀ (a : Arrival) (b : Byte) (s : State),
     (∀ last, s.lnk.rx.last? = some last → s.time + a.elapsed ≤ last + 2000) →
     let now := s.time + a.elapsed
     let into (rx : Assembler) := Host.Outcome.next (φ := Fault) (ρ := Refusal)
       (pump ((arrive a s).withLnk { s.lnk with rx := rx }))
     (s.lnk.rx = .hunt →
       exec (.linkRxByte a b) s = into (if b = 0xC3 then .length now else .hunt))
     ∧ (∀ last, s.lnk.rx = .length last → b.toNat ≤ 96 →
       exec (.linkRxByte a b) s = into (.kind now b.toNat))
     ∧ (∀ last, s.lnk.rx = .kind last 0 → exec (.linkRxByte a b) s = into (.checkLow now b []))
     ∧ (∀ last n, s.lnk.rx = .kind last (n + 1) →
       exec (.linkRxByte a b) s = into (.payload now (n + 1) b []))
     ∧ (∀ last len k got, s.lnk.rx = .payload last len k got → got.length + 1 < len →
       exec (.linkRxByte a b) s = into (.payload now len k (got ++ [b])))
     ∧ (∀ last len k got, s.lnk.rx = .payload last len k got → len ≤ got.length + 1 →
       exec (.linkRxByte a b) s = into (.checkLow now k (got ++ [b])))
     ∧ (∀ last k got, s.lnk.rx = .checkLow last k got →
       exec (.linkRxByte a b) s = into (.checkHigh now k got b))
     ∧ (∀ last k got low, s.lnk.rx = .checkHigh last k got low →
         b ++ low = check (byteOf got.length :: k :: got) →
       exec (.linkRxByte a b) s = .next (pump (frameComplete k (frameOwner k got)
         ((arrive a s).withLnk { s.lnk with rx := .hunt })))))
  ∧ (∀ (a : Arrival) (b : Byte) (s : State),
       let now := s.time + a.elapsed
       let ended (reason : LinkReason) (c : LinkCounts) :=
         raise (.linkError reason) ((arrive a s).withLnk { s.lnk with rx := .hunt, counts := c })
       (∀ last, s.lnk.rx = .length last → now ≤ last + 2000 → 96 < b.toNat →
         exec (.linkRxByte a b) s = .next (pump (ended .length
           { s.lnk.counts with lengthErrors := bump16 s.lnk.counts.lengthErrors })))
       ∧ (∀ last k got low, s.lnk.rx = .checkHigh last k got low → now ≤ last + 2000 →
           b ++ low ≠ check (byteOf got.length :: k :: got) →
         exec (.linkRxByte a b) s = .next (pump (ended .check
           { s.lnk.counts with checkErrors := bump16 s.lnk.counts.checkErrors })))
       ∧ (∀ last, s.lnk.rx.last? = some last → last + 2000 < now →
         let g := ended .gap { s.lnk.counts with gapErrors := bump16 s.lnk.counts.gapErrors }
         exec (.gapTimeout a) s = .next (pump g)
         ∧ exec (.linkRxByte a b) s = .next (pump (g.withLnk
             { g.lnk with rx := if b = 0xC3 then .length now else .hunt })))
       ∧ ((s.lnk.rx = .hunt ∨ ∃ last, s.lnk.rx.last? = some last ∧ now ≤ last + 2000) →
         exec (.gapTimeout a) s = .next (pump (arrive a s))))
  ∧ (let lengths : List (Nat × Nat) := [(0x10, 39), (0x11, 6), (0x12, 6), (0x12, 10), (0x13, 0), (0x14, 0),
       (0x20, 10), (0x28, 13), (0x29, 6), (0x2A, 0), (0x30, 19), (0x31, 1), (0x32, 0), (0x33, 3), (0x34, 4),
       (0x35, 1), (0x40, 0), (0x48, 6), (0x49, 9), (0x4A, 4), (0x4C, 0), (0x4D, 4), (0x4E, 4), (0x58, 3),
       (0x59, 2), (0x60, 0), (0x61, 0), (0x62, 0)]
     let counted : List (Nat × Nat) := [(0x21, 1), (0x4B, 17)]
     let known (k : Byte) := k.toNat ∈ lengths.map (·.1) ∨ k.toNat ∈ counted.map (·.1)
     let allowed (k : Byte) (p : List Byte) := (k.toNat, p.length) ∈ lengths
       ∨ ∃ n rest fixed, p = n :: rest ∧ (k.toNat, fixed) ∈ counted ∧ p.length = fixed + 3 * n.toNat
     (∀ (a : Arrival) (b : Byte) (s : State) (last : Nat) (k : Byte) (p : List Byte) (low : Byte),
       s.lnk.rx = .checkHigh last k p low → s.time + a.elapsed ≤ last + 2000 →
       b ++ low = check (byteOf p.length :: k :: p) → slotReady s = true →
       let u := (taken a s).withLnk { (taken a s).lnk with rx := .hunt }
       (¬ known k → exec (.linkRxByte a b) s = .next (answered k [6] u))
       ∧ (known k → ¬ allowed k p → exec (.linkRxByte a b) s = .next (answered k [5] u))
       ∧ (allowed k p → ∃ r, parseRequest k p = .request r ∧ r.kind = k
         ∧ exec (.linkRxByte a b) s = exec (commandOf a r) (s.withLnk { s.lnk with rx := .hunt })))
     ∧ (∀ p : List Byte, p.length = 6 →
       ∃ f, parseRequest 0x12 p = .request (.sessionStart f) ∧ f.energyCap = 0
         ∧ parseRequest 0x12 (p ++ [0, 0, 0, 0]) = .request (.sessionStart f)))

/-- R178, R186, R188, R184, R169: when a frame's last stop bit has been sent the outbound side is
FREE, and takes the reply, else the owed BUSY, else the owed notice with the lowest kind number,
else nothing. What it takes is gone from where it waited, and is on the line for 40 µs a byte.

R188, R186: the same taking by a FREE side at the end of any arrival, and none by a SENDING one.

R171, section 10.8: a notice opens with the kind number, the count, the pending set and the age of
the latest occurrence, which stops at 4,294,967,295, and goes on with the data of that occurrence,
field by field for each of the fourteen kinds (the codes are those of ReadsReportAndChangeNothing).
Log entries 1, 7. -/
def Obligations.TheOutboundSideTakesInOrder : Prop :=
  (∀ (a : Arrival) (bytes : List Byte) (ends : Nat) (s : State),
     s.lnk.out = .sending bytes ends false → ends ≤ s.time + a.elapsed →
     let now := s.time + a.elapsed
     let frame (kind : Byte) (p : List Byte) (restart : Bool) :=
       Outbound.sending (frameBytes kind p) (now + 40 * (frameBytes kind p).length) restart
     (∀ q, s.lnk.slot = some q →
       exec (.outboundFrameSent a) s = .next ((arrive a s).withLnk
         { s.lnk with
           slot := none
           out := frame (q.kind ||| 0x80) q.reply (s.lnk.restartPending && q.kind == 0x61) }))
     ∧ (∀ k, s.lnk.slot = none → s.lnk.owedBusy = some k →
       exec (.outboundFrameSent a) s = .next ((arrive a s).withLnk
         { s.lnk with owedBusy := none, out := frame (k ||| 0x80) [2] false }))
     ∧ (∀ k : Fin 14, s.lnk.slot = none → s.lnk.owedBusy = none → (s.evt.at k).owed = true →
         (∀ j : Fin 14, j < k → (s.evt.at j).owed = false) →
       ∃ e, (∀ j : Fin 14, e.at j = if j = k then { s.evt.at j with owed := false } else s.evt.at j)
         ∧ exec (.outboundFrameSent a) s = .next (((arrive a s).withEvt e).withLnk
           { s.lnk with
             out := frame 0x70 (noticePayload s.evt k (now / 1000)) false
             counts := { s.lnk.counts with notices := bump16 s.lnk.counts.notices } }))
     ∧ (s.lnk.slot = none → s.lnk.owedBusy = none → (∀ j : Fin 14, (s.evt.at j).owed = false) →
       exec (.outboundFrameSent a) s = .next ((arrive a s).withLnk { s.lnk with out := .free })))
  ∧ (∀ s : State,
       let frame (kind : Byte) (p : List Byte) (restart : Bool) :=
         Outbound.sending (frameBytes kind p) (s.time + 40 * (frameBytes kind p).length) restart
       (s.lnk.out ≠ .free → pump s = s)
       ∧ (∀ q, s.lnk.out = .free → s.lnk.slot = some q → pump s = s.withLnk { s.lnk with
           slot := none
           out := frame (q.kind ||| 0x80) q.reply (s.lnk.restartPending && q.kind == 0x61) })
       ∧ (∀ k, s.lnk.out = .free → s.lnk.slot = none → s.lnk.owedBusy = some k →
         pump s = s.withLnk { s.lnk with owedBusy := none, out := frame (k ||| 0x80) [2] false })
       ∧ (∀ k : Fin 14, s.lnk.out = .free → s.lnk.slot = none → s.lnk.owedBusy = none →
           (s.evt.at k).owed = true → (∀ j : Fin 14, j < k → (s.evt.at j).owed = false) →
         ∃ e, (∀ j : Fin 14, e.at j = if j = k then { s.evt.at j with owed := false } else s.evt.at j)
           ∧ pump s = (s.withEvt e).withLnk { s.lnk with
               out := frame 0x70 (noticePayload s.evt k (s.time / 1000)) false
               counts := { s.lnk.counts with notices := bump16 s.lnk.counts.notices } })
       ∧ (s.lnk.slot = none → s.lnk.owedBusy = none → (∀ j : Fin 14, (s.evt.at j).owed = false) →
         pump s = s))
  ∧ (∀ (e : Evt) (k : Fin 14) (now at_ : Nat) (d : EventData), (e.at k).latest = some (at_, d) →
       let flag (b : Bool) := if b then 1 else 0
       let cause16 (c : Option EndCause) := match c with | some c => c.code | none => 0
       let causeHeat (c : Option HeatEnd) := match c with | some c => c.code | none => 0
       noticePayload e k now = putU8 k.val ++ putU8 (e.at k).count ++ putU16 e.pendingSet
         ++ putU32 (min (now - at_) 4294967295)
         ++ (match d with
           | .restarted warm => putU8 (flag warm)
           | .contactorFault c held => putU8 c.code ++ putU8 (flag held)
           | .isoLevel sec before after cause => putU8 sec.num ++ putU8 before.code ++ putU8 after.code
             ++ (match cause with | some figure => putU32 figure | none => [0xFF, 0xFF, 0xFF, 0xFF])
           | .mainsLoss cycles duration => putU8 cycles ++ putU32 duration
           | .offerStale source iOff vOff pOff => putU8 source.code ++ putU16 iOff
             ++ (match vOff with | .upTo v => putU16 v | .unlimited => [0xFF, 0xFF])
             ++ (match pOff with | .upTo v => putU32 v | .unlimited => [0xFF, 0xFF, 0xFF, 0xFF])
           | .sensorFault sensor reason => putU8 sensor.code ++ putU8 reason.code
           | .linkError reason => putU8 reason.code
           | .sessionPhase st cause => putU8 st.code ++ putU8 (cause16 cause)
           | .heatState st source level cause run => putU8 st.code ++ putU8 source.code
             ++ putU8 (levelCode level) ++ putU8 (causeHeat cause)
             ++ (match run with
               | some q => putU8 1
                 ++ putU32 (match q.ended with
                   | some (stop, _) => min (stop - q.start) 4294967295
                   | none => 0)
                 ++ putI32 q.packEnergy ++ putU32 q.heaterEnergy ++ putU8 q.highest.code
                 ++ putU8 (causeHeat (q.ended.map Prod.snd))
               | none => List.replicate 15 0)
           | .isoResult sec slot outcome => putU8 sec.num ++ putU8 slot.code
             ++ (match outcome with
               | .result vbA vbB rp rn rIso figure mark => putU8 0 ++ putU8 0 ++ putU16 vbA ++ putU16 vbB
                 ++ putU16 rp ++ putU16 rn ++ putU16 rIso ++ putU32 figure ++ putU8 (flag mark)
               | .dead vbA vbB => putU8 1 ++ putU8 0 ++ putU16 vbA ++ putU16 vbB ++ List.replicate 11 0
               | .tolerance vbA vbB =>
                 putU8 2 ++ putU8 0 ++ putU16 vbA ++ putU16 vbB ++ List.replicate 11 0
               | .polarity vbA vbB =>
                 putU8 2 ++ putU8 1 ++ putU16 vbA ++ putU16 vbB ++ List.replicate 11 0)
           | .isoOverwrite sec => putU8 sec.num
           | .sessionEnd sequence cause => putU32 sequence ++ putU8 cause.code
           | .recordReady sequence closed => putU32 sequence ++ putU8 closed
           | .queueLow free => putU8 free))

/-- R192, R134, R160 (STATUS, METER_QUERY, RECORD_PEEK): the three reads change nothing but the
link's own taking of them. STATUS is 77 bytes and METER_QUERY 90; RECORD_PEEK is the counts and the
whole oldest record, or NO_RECORD with the counts.

R192 and section 10.9 (STATUS), R134 and section 10.6 (METER_QUERY), section 10.7 (the record of
RECORD_PEEK): the contents of the two replies, 77 and 90 bytes with the status, and of a closed
record, field by field in the order of their layouts. An absent item is 0. A number wider than its
field is sent by its low bytes (log entry 16), and the last sample's age is the whole ms of the µs
since its end (log entry 26); the figures of the allocation are those the last one left (log entry
22).

R196, section 10.4: the forms and the codes these payloads are written in. A field is sent least
significant byte first, a signed one in two's complement (log entry 16), and each named value has
its number.

R190, R191 (LINK_COUNTS_CLEAR): the reply carries the seven counts as they stand, this request among
them, and only then are they set to 0. Log entries 16, 22, 26. -/
def Obligations.ReadsReportAndChangeNothing : Prop :=
  (∀ (a : Arrival) (s : State), slotReady s = true →
     (exec (.status a) s = .next (answered 0x60 (statusReply (taken a s)) (taken a s))
       ∧ (statusReply (taken a s)).length = 77)
     ∧ (exec (.meterQuery a) s = .next (answered 0x40 (meterReply (taken a s)) (taken a s))
       ∧ (meterReply (taken a s)).length = 90)
     ∧ (s.bil.queue = [] →
       exec (.recordPeek a) s
         = .next (answered 0x4C (9 :: putU8 0 ++ putU8 (freePlaces s)) (taken a s)))
     ∧ (∀ q rest, s.bil.queue = q :: rest →
       exec (.recordPeek a) s = .next (answered 0x4C
         (0 :: putU8 s.bil.queue.length ++ putU8 (freePlaces s) ++ q.bytes) (taken a s))
       ∧ q.bytes.length = (if q.minIso.isSome then 68 else 64)))
  ∧ (∀ s : State,
       let flag (b : Bool) := if b then 1 else 0
       let clock := s.bil.clock.read s.time
       let counts := s.lnk.counts
       let o := s.alc.offer
       let m := s.mtr
       let four (v : Vector Nat 4) := putU32 v[0] ++ putU32 v[1] ++ putU32 v[2] ++ putU32 v[3]
       statusReply s = 0 :: (putU8 s.seq.state.code
         ++ putU32 ((s.seq.ctx.map (·.sequence)).getD 0)
         ++ putU32 ((s.seq.pendingStart.map (·.expiry - s.nowMs)).getD 0)
         ++ putU8 (flag s.seq.faultLatch + 2 * flag s.seq.lockHeld)
         ++ putU8 o.state.code ++ putU8 o.source.code ++ putU16 o.iOff
         ++ (match o.vOff with | .upTo v => putU16 v | .unlimited => [0xFF, 0xFF])
         ++ (match o.pOff with | .upTo v => putU32 v | .unlimited => [0xFF, 0xFF, 0xFF, 0xFF])
         ++ putU16 ((o.hold.map (· - s.nowMs)).getD 0)
         ++ putU32 s.alc.pAvail ++ putU16 s.alc.iAcc
         ++ putI8 (s.alc.tMin.getD (-128)) ++ putI8 (s.alc.tMax.getD (-128))
         ++ putU16 s.alc.targetSet ++ putU16 s.alc.appliedSet
         ++ putU8 (levelCode s.alc.targetGrant) ++ putU8 (levelCode s.alc.appliedGrant)
         ++ putU8 (flag s.alc.quiet)
         ++ putU8 s.htr.state.code ++ putU8 ((s.htr.request.map HeatRequest.source).getD HeatSource.none).code
         ++ putU8 (levelCode s.htr.level)
         ++ putU8 s.ism.packLevel.level.code ++ putU8 s.ism.heaterLevel.level.code ++ putU8 3
         ++ putU8 (netCode s.ism.flight)
         ++ putU8 s.bil.queue.length ++ putU8 (freePlaces s) ++ putU32 s.bil.counter
         ++ putU8 (flag clock.valid) ++ putU16 clock.day ++ putU32 clock.seconds
         ++ putU16 s.evt.pendingSet ++ putU16 s.evt.owedSet ++ putU8 (flag s.evt.alert)
         ++ putU16 counts.requests ++ putU16 counts.busy ++ putU16 counts.overruns
         ++ putU16 counts.gapErrors ++ putU16 counts.lengthErrors ++ putU16 counts.checkErrors
         ++ putU16 counts.notices)
       ∧ meterReply s = 0 :: (putU8 (if m.gate = .opened then 1 else 0)
         ++ (match m.timing with
           | .timed => putU8 0 ++ putU32 (s.time - m.intervalStart) ++ putU8 0
           | .mains cycles _ => putU8 1 ++ putU32 (s.time - m.intervalStart) ++ putU8 cycles)
         ++ (match m.lastSample with
           | some q => putU8 1 ++ putU32 (min ((s.time - q.endUs) / 1000) 4294967295)
             ++ putU32 q.duration ++ putU8 (flag q.cycles.isSome) ++ putU8 (q.cycles.getD 0)
             ++ putU8 (match q.kind with | .full => 0 | .boundary => 1 | .gateClose | .mainsLoss => 2)
             ++ putU8 (match q.kind with | .gateClose => 1 | .mainsLoss => 2 | .full | .boundary => 0)
             ++ putU32 q.powers.inlet.toNat ++ putU16 q.powers.heater.toNat ++ putI32 q.powers.pack
             ++ putU8 (match q.destination with | .none => 0 | .session => 1 | .run => 2)
           | none => List.replicate 24 0)
         ++ putU32 m.residues.inlet ++ putU32 m.residues.heater ++ putU32 m.residues.pack
         ++ (match s.bil.openRec with
           | some q => putU8 1 ++ four q.band ++ four q.heaterBand ++ putI32 q.netPack
           | none => List.replicate 37 0)
         ++ (match s.htr.run with
           | some q => if q.ended = none then putU8 1 ++ putI32 q.packEnergy ++ putU32 q.heaterEnergy
             else List.replicate 9 0
           | none => List.replicate 9 0))
       ∧ (∀ r : ClosedRecord, r.bytes = putU32 r.sequence ++ putU32 r.account
         ++ putU8 (r.profile.code + 2 * r.policy.code + 16 * flag r.untimed + 32 * flag r.partial_
             + 64 * flag r.minIso.isSome)
         ++ putU8 r.endCause.code ++ putU8 r.generation ++ [0]
         ++ putU16 r.startDay ++ putU32 r.startSeconds ++ putU16 r.endDay ++ putU32 r.endSeconds
         ++ four r.band ++ four r.heaterBand ++ putI32 r.netPack ++ putU32 r.cost
         ++ (match r.minIso with | some f => putU32 f | none => [])))
  ∧ ((∀ (n : Nat) (i : Int),
       let byte (m : Nat) := BitVec.ofNat 8 m
       putU8 n = [byte n] ∧ putU16 n = [byte n, byte (n / 256)]
         ∧ putU32 n = [byte n, byte (n / 256), byte (n / 65536), byte (n / 16777216)]
         ∧ putI8 i = [BitVec.ofInt 8 i] ∧ putI32 i = putU32 (BitVec.ofInt 32 i).toNat)
     ∧ [Status.ok, .clamped, .busy, .state, .range, .length, .unknown, .full, .latched, .noRecord,
         .mismatch, .notFound].map Status.code = [0, 1, 2, 3, 4, 5, 6, 7, 8, 9, 10, 11]
     ∧ Profile.ac.code = 0 ∧ Profile.dc.code = 1 ∧ Policy.heatFirst.code = 0 ∧ Policy.chargeFirst.code = 1
     ∧ [SeqState.idle, .waitingRest, .connect, .isocheck, .precharge, .energy, .taper, .release].map
         SeqState.code = [0, 1, 2, 3, 4, 5, 6, 7]
     ∧ [EndCause.hostStop, .complete, .cap, .offerStale, .holdTimeout, .inletIso, .isocheckFail,
         .isocheckTimeout, .isoFault, .contactor, .unplug, .packOff, .mainsLoss, .inletHot].map
         EndCause.code = [1, 2, 3, 4, 5, 6, 7, 8, 9, 10, 11, 12, 13, 14]
     ∧ [OfferState.empty, .live, .stale].map OfferState.code = [0, 1, 2]
     ∧ [OfferSource.none, .line, .host].map OfferSource.code = [0, 1, 2]
     ∧ [none, some Level.l1, some .l2, some .l3, some .l4, some .l5, some .l6, some .l7, some .l8,
         some .h5, some .h6, some .h7, some .h8].map levelCode = [0, 1, 2, 3, 4, 5, 6, 7, 8, 9, 10, 11, 12]
     ∧ (∀ l : Level, l.code = levelCode (some l))
     ∧ [HeatState.idle, .pending, .check, .on, .satisfied].map HeatState.code = [0, 1, 2, 3, 4]
     ∧ [HeatSource.none, .inlet, .pack].map HeatSource.code = [0, 1, 2]
     ∧ [HeatEnd.expired, .cancelled, .isoFault, .isoCheck, .restart, .superseded, .sourceLost,
         .element].map HeatEnd.code = [1, 2, 3, 4, 5, 6, 7, 8]
     ∧ [Section.pack, .heater, .inlet].map Section.num = [0, 1, 2]
     ∧ [ScanMode.off, .single, .periodic, .continuous].map ScanMode.code = [0, 1, 2, 3]
     ∧ [Slot.sequencer, .heater, .host, .scan].map Slot.code = [0, 1, 2, 3]
     ∧ (∀ flight : Option Measurement, netCode flight = match flight.map Measurement.phase with
         | none => 0
         | some .settleA => 1
         | some .sampleA => 2
         | some .settleB => 3
         | some .sampleB => 4)
     ∧ [IsoLevel.normal, .warning, .fault].map IsoLevel.code = [0, 1, 2]
     ∧ [FaultCase.closeCheck, .opened, .weld, .coldStart].map FaultCase.code = [0, 1, 2, 3]
     ∧ (∀ n : Fin 4, (SensorId.pack n).code = n.val) ∧ SensorId.inletPin.code = 4
     ∧ SensorId.element.code = 5 ∧ SensorReason.markedInvalid.code = 0 ∧ SensorReason.outOfRange.code = 1
     ∧ [LinkReason.gap, .length, .check, .overrun].map LinkReason.code = [0, 1, 2, 3])
  ∧ (∀ (a : Arrival) (s : State), slotReady s = true →
       exec (.linkCountsClear a) s = .next (answered 0x62
         (0 :: countBytes { s.lnk.counts with requests := bump16 s.lnk.counts.requests })
         ((arrive a s).withLnk { s.lnk with
           counts := { requests := 0, busy := 0, overruns := 0, gapErrors := 0, lengthErrors := 0
                       checkErrors := 0, notices := 0 } })))

/-- R193 (RESTART): taken in IDLE and WAITING_REST, and refused with STATE otherwise. Taken, it is
pending at once, and its reply tells whether a start was waiting.

R194 and its table: when the RESTART's own reply has been sent, the warm restart discards a pending
start and the heat request, empties the offer record, ISM's slots, MTR's interval and residues,
raises RESTARTED WARM, and keeps the settings, the levels, the accounts, the queue and the counter.
Log entry 29. -/
def Obligations.ARestartIsTakenAndTakesEffect : Prop :=
  (∀ (a : Arrival) (s : State), slotReady s = true →
     ((s.seq.state = .idle ∨ s.seq.state = .waitingRest) →
       exec (.restart a) s = .next (answered 0x61 [0, if s.seq.pendingStart.isSome then 1 else 0]
         ((taken a s).withLnk { (taken a s).lnk with restartPending := true })))
     ∧ (s.seq.state ≠ .idle → s.seq.state ≠ .waitingRest →
       exec (.restart a) s = .next (answered 0x61 [3] (taken a s))))
  ∧ (∀ (a : Arrival) (bytes : List Byte) (ends : Nat) (s : State),
       s.lnk.out = .sending bytes ends true → ends ≤ s.time + a.elapsed →
       ∃ t, exec (.outboundFrameSent a) s = .next t
         ∧ t.lnk.restartPending = false ∧ t.lnk.slot = none
         ∧ t.seq.pendingStart = none
         ∧ t.seq.state = (if s.seq.pendingStart.isSome then .idle else s.seq.state)
         ∧ t.seq.ac = s.seq.ac ∧ t.seq.dc = s.seq.dc ∧ t.seq.settings = s.seq.settings
         ∧ t.seq.faultLatch = s.seq.faultLatch ∧ t.seq.lockHeld = s.seq.lockHeld
         ∧ t.htr.request = none ∧ t.htr.settings = s.htr.settings
         ∧ t.alc.offer = emptyOffer ∧ t.alc.derate = s.alc.derate
         ∧ t.ism.slotSeq = false ∧ t.ism.slotHeater = false ∧ t.ism.slotHost = none
         ∧ t.ism.settings = s.ism.settings ∧ t.ism.warn = s.ism.warn ∧ t.ism.fault = s.ism.fault
         ∧ t.ism.packLevel = s.ism.packLevel ∧ t.ism.heaterLevel = s.ism.heaterLevel
         ∧ t.mtr.residues = zeroResidues ∧ t.mtr.lastSample = none ∧ t.mtr.timing = .timed
         ∧ t.mtr.intervalStart = s.time + a.elapsed
         ∧ t.bil.accounts = s.bil.accounts ∧ t.bil.queue = s.bil.queue
         ∧ t.bil.counter = s.bil.counter ∧ t.bil.clock = s.bil.clock
         ∧ (t.evt.at 0).latest = some ((s.time + a.elapsed) / 1000, .restarted true)
         ∧ t.inputs = s.inputs
         ∧ ((s.ism.scan.mode = .off ∨ s.ism.scan.mode = .single) → t.ism.flight = none
             ∧ t.ism.scan.busy = false ∧ t.ism.scan.step = none))

/-- R195, R28, R172: after a cold start every block stands at its start values, whatever stood
before: the settings, the routes, the events and the link's counts. The pins keep their levels;
where DCC_FB reads closed the contactor fault latch is set with the lock held and engaged; and
RESTARTED COLD is pending, its notice the first frame sent and so the one count above 0 (taken at
that same instant, log entry 7). With the pins and the queue of the reset state it is that state.
What the values of invalid sensors, the empty rest record's profile and instant and the means then
hold is the model's choice (log entry 3), as are unread voltages of 0 for SEQ (log entry 35).

R4, R5, R40, R51, R54, R70, R74, R96, R105, R107, R135, R139, R140, R149, R164: what a cold start
leaves, as numbers: both profiles, the sequencer settings, the derate table and an empty offer, the
heater settings, the monitor settings, the scan, the thresholds and empty records, an INVALID clock,
no account, one tariff window at price 0 and the counter at 0. I_acc is the derate table's at
assumed_temp, and P_avail 0 (log entry 22). Log entries 2, 3, 7, 22, 23, 35. -/
def Obligations.TheColdStartResetsEveryBlock : Prop :=
  (∀ (a : Arrival) (s : State),
     ∃ t, exec (.coldStart a) s = .next t
       ∧ t.inputs = s.inputs ∧ t.pending = s.pending ∧ t.time = 0
       ∧ t.mfe = State.reset.mfe ∧ t.alc = State.reset.alc ∧ t.htr = State.reset.htr
       ∧ t.ism = State.reset.ism ∧ t.mtr = State.reset.mtr ∧ t.bil = State.reset.bil
       ∧ t.seq = { State.reset.seq with
           faultLatch := s.inputs.dccFb, lockHeld := s.inputs.dccFb, lockCmd := s.inputs.dccFb }
       ∧ (t.evt.at 0).pending = true ∧ (t.evt.at 0).latest = some (0, .restarted false)
       ∧ (t.evt.at 1).pending = s.inputs.dccFb
       ∧ (t.evt.at 1).latest
           = (if s.inputs.dccFb then some (0, .contactorFault .coldStart true) else none)
       ∧ (∀ k : Fin 14, 2 ≤ k.val → (t.evt.at k).pending = false ∧ (t.evt.at k).count = 0
           ∧ (t.evt.at k).owed = false ∧ (t.evt.at k).latest = none)
       ∧ (t.evt.at 0).count = 1 ∧ (t.evt.at 1).count = (if s.inputs.dccFb then 1 else 0)
       ∧ (t.evt.at 0).owed = false ∧ (t.evt.at 1).owed = s.inputs.dccFb
       ∧ (∀ k : Fin 14, (t.evt.at k).route = if k = 1 ∨ k = 2 then .both else .notice)
       ∧ t.lnk =
           { rx := .hunt, slot := none, owedBusy := none, restartPending := false
             counts := { requests := 0, busy := 0, overruns := 0, gapErrors := 0, lengthErrors := 0
                         checkErrors := 0, notices := 1 }
             out := .sending (frameBytes 0x70
               [0, 1, if s.inputs.dccFb then 3 else 1, 0, 0, 0, 0, 0, 0]) 560 false }
       ∧ (s.inputs = State.reset.inputs → s.pending = [] → t = State.reset))
  ∧ (∀ (a : Arrival) (s : State), ∃ t, exec (.coldStart a) s = .next t
       ∧ t.seq.ac =
         { connectMin := 500, prechargeMin := 1000, holdMax := 20000, holdFilter := .confirmed
           confirmTime := 50, isocheckEnable := false, taperEnable := true, taperVoltage := 8200
           taperStep := 900, endCurrent := 50, releaseCurrent := 20, releaseMax := 2000
           releaseRest := 2000, maxCurrent := 400, maxPower := 22000 }
       ∧ t.seq.acOnly = { obcEfficiency := 940, phaseCount := 3 }
       ∧ t.seq.dc =
         { connectMin := 500, prechargeMin := 2000, holdMax := 60000, holdFilter := .confirmed
           confirmTime := 50, isocheckEnable := true, taperEnable := true, taperVoltage := 8200
           taperStep := 900, endCurrent := 100, releaseCurrent := 50, releaseMax := 3000
           releaseRest := 5000, maxCurrent := 4000, maxPower := 200000 }
       ∧ t.seq.dcOnly = { isocheckMax := 30000, matchWindow := 200 }
       ∧ t.seq.settings = { switchRest := 8000, turnRest := 3000, contactorCheck := 150 }
       ∧ t.seq.state = .idle ∧ t.seq.ctx = none ∧ t.seq.pendingStart = none ∧ t.seq.rest.kind = .none
       ∧ t.seq.check = .none ∧ t.seq.dccCmd = false ∧ t.seq.obcEn = false
       ∧ t.alc.derate = [(0, 1000), (45, 0)] ∧ t.alc.iAcc = 1000 ∧ t.alc.pAvail = 0
       ∧ t.alc.targetSet = 0 ∧ t.alc.appliedSet = 0 ∧ t.alc.targetGrant = none
       ∧ t.alc.appliedGrant = none ∧ t.alc.ceiling = none ∧ t.alc.quiet = false
       ∧ t.alc.offer = { state := .empty, source := .none, iOff := 0, vOff := .upTo 0, pOff := .upTo 0
                         hold := none }
       ∧ (∀ k : Fin 4, t.alc.sensors[k].valid = false) ∧ t.alc.inletPin.valid = false
       ∧ t.htr.settings =
         { packHeatMax := 1800, packFloor := 6000, heatRest := 2000, checkAge := 600, hysteresis := 2
           elementMax := 120, elementResume := 90, maxPackTemp := 40, assumedTemp := 0 }
       ∧ t.htr.request = none ∧ t.htr.state = .idle ∧ t.htr.level = none ∧ t.htr.switch = false
       ∧ t.htr.element.valid = false ∧ t.htr.lock = true ∧ t.htr.run = none
       ∧ t.ism.settings =
         { r0 := 500, settlePack := 1000, settleHeater := 300, settleInlet := 500
           settlePackExtra := 1000, samples := 16, tolerance := 50, vRef := 8500 }
       ∧ t.ism.scan = { mode := .off, first := .pack, last := .pack, period := 10, busy := false
                        step := none, measured := false, timer := none }
       ∧ t.ism.warn = 500 ∧ t.ism.fault = 100
       ∧ t.ism.slotSeq = false ∧ t.ism.slotHeater = false ∧ t.ism.slotHost = none
       ∧ t.ism.flight = none ∧ t.ism.scanOverrun = 0
       ∧ (∀ sec : Section, t.ism.record sec =
           { result := none, fresh := false, overwrite := false, completed := 0, discarded := 0
             dead := 0, inconsistent := 0, skipped := 0 })
       ∧ (∀ l : LevelRecord, l = t.ism.packLevel ∨ l = t.ism.heaterLevel →
           l = { lowRun := 0, faultRun := 0, goodRun := 0, level := .normal, latch := none })
       ∧ t.mtr = { gate := .closed, intervalStart := 0, timing := .timed
                   residues := { inlet := 0, heater := 0, pack := 0 }, lastSample := none }
       ∧ t.bil.clock = { valid := false, setDay := 0, setSeconds := 0, setInstant := 0 }
       ∧ t.bil.accounts = [] ∧ t.bil.pendingTariff = none
       ∧ t.bil.active = { generation := 0, windows := [(0, 0)], prices := #v[0, 0, 0, 0] }
       ∧ t.bil.counter = 0 ∧ t.bil.queue = [] ∧ t.bil.openRec = none)

/-! ## What every step keeps -/

/-- R128, R166, R167, R169, R173, R174, R190: every step keeps every kind's record coherent (pending
exactly while its count is above 0 and an occurrence is held, owed only while pending and routed to
notices), each residue below one mWh, and each link count within 65,535. -/
def Obligations.EveryStepKeepsTheRecordsAndCounts : Prop :=
  ∀ s t : State, EvtOk s ∧ ResiduesOk s ∧ CountsOk s → step s = .next t →
    EvtOk t ∧ ResiduesOk t ∧ CountsOk t

/-- R84, R104, R107, R110, R112: every step keeps a level FAULT exactly while its latch is set,
every run within 255, every stored figure as computed from its own R_iso and v_ref, and a
measurement for the SEQUENCER slot on INLET and for the HEATER slot on HEATER. -/
def Obligations.EveryStepKeepsTheLevelsAndResults : Prop :=
  ∀ s t : State, LevelOk s ∧ ResultsOk s ∧ FlightOk s → step s = .next t →
    LevelOk t ∧ ResultsOk t ∧ FlightOk t

/-- R1, R2, R9, R18, R22, R25, R157: every step keeps the session context, the pending start and the
open record to their states, the DC contactor command to an energised DC session, and closed
records, the open session and the pending start together within the 32 places. -/
def Obligations.EveryStepKeepsTheSession : Prop :=
  ∀ s t : State, SessionOk s ∧ ContactorsOk s ∧ QueueOk s → step s = .next t →
    SessionOk t ∧ ContactorsOk t ∧ QueueOk t

/-- R47, R52, R55, R66, R67, R68: every step keeps the applied setpoint and grant at nothing outside
ENERGY and TAPER, the heater switch closed exactly in ON, a level applied only in ON, a request
standing exactly outside IDLE, and a pack-heat run active only while a request stands that holds the
PACK source. -/
def Obligations.EveryStepKeepsTheHeaterAndTheAllocation : Prop :=
  ∀ s t : State, AppliedOk s ∧ HeaterOk s → step s = .next t → AppliedOk t ∧ HeaterOk t

/-- The reset state meets every invariant. Log entries 2, 3, 7. -/
def Obligations.TheResetStateMeetsTheInvariants : Prop :=
  EvtOk State.reset ∧ ResiduesOk State.reset ∧ CountsOk State.reset
    ∧ LevelOk State.reset ∧ ResultsOk State.reset ∧ FlightOk State.reset
    ∧ SessionOk State.reset ∧ ContactorsOk State.reset ∧ QueueOk State.reset
    ∧ AppliedOk State.reset ∧ HeaterOk State.reset
end

