-- ==== Sys2Proof/Laws/State.lean ====
section
/-! SUPPORT. One lemma per field per block update of `State`, true by rfl, and `State.nowMs` through each
update; so that no later proof unfolds a record update. -/
namespace Sys2Proof.Machine
open Sys2Proof

set_option Elab.async false

variable (s : State)

@[simp] theorem State.withTime_time (v : Nat) : (s.withTime v).time = v := rfl
@[simp] theorem State.withTime_inputs (v : Nat) : (s.withTime v).inputs = s.inputs := rfl
@[simp] theorem State.withTime_mfe (v : Nat) : (s.withTime v).mfe = s.mfe := rfl
@[simp] theorem State.withTime_seq (v : Nat) : (s.withTime v).seq = s.seq := rfl
@[simp] theorem State.withTime_alc (v : Nat) : (s.withTime v).alc = s.alc := rfl
@[simp] theorem State.withTime_htr (v : Nat) : (s.withTime v).htr = s.htr := rfl
@[simp] theorem State.withTime_ism (v : Nat) : (s.withTime v).ism = s.ism := rfl
@[simp] theorem State.withTime_mtr (v : Nat) : (s.withTime v).mtr = s.mtr := rfl
@[simp] theorem State.withTime_bil (v : Nat) : (s.withTime v).bil = s.bil := rfl
@[simp] theorem State.withTime_evt (v : Nat) : (s.withTime v).evt = s.evt := rfl
@[simp] theorem State.withTime_lnk (v : Nat) : (s.withTime v).lnk = s.lnk := rfl
@[simp] theorem State.withTime_pending (v : Nat) : (s.withTime v).pending = s.pending := rfl
@[simp] theorem State.withTime_withTime (v v' : Nat) : (s.withTime v).withTime v' = s.withTime v' := rfl
@[simp] theorem State.withTime_self : s.withTime s.time = s := rfl

@[simp] theorem State.withInputs_time (v : Inputs) : (s.withInputs v).time = s.time := rfl
@[simp] theorem State.withInputs_inputs (v : Inputs) : (s.withInputs v).inputs = v := rfl
@[simp] theorem State.withInputs_mfe (v : Inputs) : (s.withInputs v).mfe = s.mfe := rfl
@[simp] theorem State.withInputs_seq (v : Inputs) : (s.withInputs v).seq = s.seq := rfl
@[simp] theorem State.withInputs_alc (v : Inputs) : (s.withInputs v).alc = s.alc := rfl
@[simp] theorem State.withInputs_htr (v : Inputs) : (s.withInputs v).htr = s.htr := rfl
@[simp] theorem State.withInputs_ism (v : Inputs) : (s.withInputs v).ism = s.ism := rfl
@[simp] theorem State.withInputs_mtr (v : Inputs) : (s.withInputs v).mtr = s.mtr := rfl
@[simp] theorem State.withInputs_bil (v : Inputs) : (s.withInputs v).bil = s.bil := rfl
@[simp] theorem State.withInputs_evt (v : Inputs) : (s.withInputs v).evt = s.evt := rfl
@[simp] theorem State.withInputs_lnk (v : Inputs) : (s.withInputs v).lnk = s.lnk := rfl
@[simp] theorem State.withInputs_pending (v : Inputs) : (s.withInputs v).pending = s.pending := rfl
@[simp] theorem State.withInputs_nowMs (v : Inputs) : (s.withInputs v).nowMs = s.nowMs := rfl
@[simp] theorem State.withInputs_withInputs (v v' : Inputs) : (s.withInputs v).withInputs v' = s.withInputs v' := rfl
@[simp] theorem State.withInputs_self : s.withInputs s.inputs = s := rfl

@[simp] theorem State.withMfe_time (v : Mfe) : (s.withMfe v).time = s.time := rfl
@[simp] theorem State.withMfe_inputs (v : Mfe) : (s.withMfe v).inputs = s.inputs := rfl
@[simp] theorem State.withMfe_mfe (v : Mfe) : (s.withMfe v).mfe = v := rfl
@[simp] theorem State.withMfe_seq (v : Mfe) : (s.withMfe v).seq = s.seq := rfl
@[simp] theorem State.withMfe_alc (v : Mfe) : (s.withMfe v).alc = s.alc := rfl
@[simp] theorem State.withMfe_htr (v : Mfe) : (s.withMfe v).htr = s.htr := rfl
@[simp] theorem State.withMfe_ism (v : Mfe) : (s.withMfe v).ism = s.ism := rfl
@[simp] theorem State.withMfe_mtr (v : Mfe) : (s.withMfe v).mtr = s.mtr := rfl
@[simp] theorem State.withMfe_bil (v : Mfe) : (s.withMfe v).bil = s.bil := rfl
@[simp] theorem State.withMfe_evt (v : Mfe) : (s.withMfe v).evt = s.evt := rfl
@[simp] theorem State.withMfe_lnk (v : Mfe) : (s.withMfe v).lnk = s.lnk := rfl
@[simp] theorem State.withMfe_pending (v : Mfe) : (s.withMfe v).pending = s.pending := rfl
@[simp] theorem State.withMfe_nowMs (v : Mfe) : (s.withMfe v).nowMs = s.nowMs := rfl
@[simp] theorem State.withMfe_withMfe (v v' : Mfe) : (s.withMfe v).withMfe v' = s.withMfe v' := rfl
@[simp] theorem State.withMfe_self : s.withMfe s.mfe = s := rfl

@[simp] theorem State.withSeq_time (v : Seq) : (s.withSeq v).time = s.time := rfl
@[simp] theorem State.withSeq_inputs (v : Seq) : (s.withSeq v).inputs = s.inputs := rfl
@[simp] theorem State.withSeq_mfe (v : Seq) : (s.withSeq v).mfe = s.mfe := rfl
@[simp] theorem State.withSeq_seq (v : Seq) : (s.withSeq v).seq = v := rfl
@[simp] theorem State.withSeq_alc (v : Seq) : (s.withSeq v).alc = s.alc := rfl
@[simp] theorem State.withSeq_htr (v : Seq) : (s.withSeq v).htr = s.htr := rfl
@[simp] theorem State.withSeq_ism (v : Seq) : (s.withSeq v).ism = s.ism := rfl
@[simp] theorem State.withSeq_mtr (v : Seq) : (s.withSeq v).mtr = s.mtr := rfl
@[simp] theorem State.withSeq_bil (v : Seq) : (s.withSeq v).bil = s.bil := rfl
@[simp] theorem State.withSeq_evt (v : Seq) : (s.withSeq v).evt = s.evt := rfl
@[simp] theorem State.withSeq_lnk (v : Seq) : (s.withSeq v).lnk = s.lnk := rfl
@[simp] theorem State.withSeq_pending (v : Seq) : (s.withSeq v).pending = s.pending := rfl
@[simp] theorem State.withSeq_nowMs (v : Seq) : (s.withSeq v).nowMs = s.nowMs := rfl
@[simp] theorem State.withSeq_withSeq (v v' : Seq) : (s.withSeq v).withSeq v' = s.withSeq v' := rfl
@[simp] theorem State.withSeq_self : s.withSeq s.seq = s := rfl

@[simp] theorem State.withAlc_time (v : Alc) : (s.withAlc v).time = s.time := rfl
@[simp] theorem State.withAlc_inputs (v : Alc) : (s.withAlc v).inputs = s.inputs := rfl
@[simp] theorem State.withAlc_mfe (v : Alc) : (s.withAlc v).mfe = s.mfe := rfl
@[simp] theorem State.withAlc_seq (v : Alc) : (s.withAlc v).seq = s.seq := rfl
@[simp] theorem State.withAlc_alc (v : Alc) : (s.withAlc v).alc = v := rfl
@[simp] theorem State.withAlc_htr (v : Alc) : (s.withAlc v).htr = s.htr := rfl
@[simp] theorem State.withAlc_ism (v : Alc) : (s.withAlc v).ism = s.ism := rfl
@[simp] theorem State.withAlc_mtr (v : Alc) : (s.withAlc v).mtr = s.mtr := rfl
@[simp] theorem State.withAlc_bil (v : Alc) : (s.withAlc v).bil = s.bil := rfl
@[simp] theorem State.withAlc_evt (v : Alc) : (s.withAlc v).evt = s.evt := rfl
@[simp] theorem State.withAlc_lnk (v : Alc) : (s.withAlc v).lnk = s.lnk := rfl
@[simp] theorem State.withAlc_pending (v : Alc) : (s.withAlc v).pending = s.pending := rfl
@[simp] theorem State.withAlc_nowMs (v : Alc) : (s.withAlc v).nowMs = s.nowMs := rfl
@[simp] theorem State.withAlc_withAlc (v v' : Alc) : (s.withAlc v).withAlc v' = s.withAlc v' := rfl
@[simp] theorem State.withAlc_self : s.withAlc s.alc = s := rfl

@[simp] theorem State.withHtr_time (v : Htr) : (s.withHtr v).time = s.time := rfl
@[simp] theorem State.withHtr_inputs (v : Htr) : (s.withHtr v).inputs = s.inputs := rfl
@[simp] theorem State.withHtr_mfe (v : Htr) : (s.withHtr v).mfe = s.mfe := rfl
@[simp] theorem State.withHtr_seq (v : Htr) : (s.withHtr v).seq = s.seq := rfl
@[simp] theorem State.withHtr_alc (v : Htr) : (s.withHtr v).alc = s.alc := rfl
@[simp] theorem State.withHtr_htr (v : Htr) : (s.withHtr v).htr = v := rfl
@[simp] theorem State.withHtr_ism (v : Htr) : (s.withHtr v).ism = s.ism := rfl
@[simp] theorem State.withHtr_mtr (v : Htr) : (s.withHtr v).mtr = s.mtr := rfl
@[simp] theorem State.withHtr_bil (v : Htr) : (s.withHtr v).bil = s.bil := rfl
@[simp] theorem State.withHtr_evt (v : Htr) : (s.withHtr v).evt = s.evt := rfl
@[simp] theorem State.withHtr_lnk (v : Htr) : (s.withHtr v).lnk = s.lnk := rfl
@[simp] theorem State.withHtr_pending (v : Htr) : (s.withHtr v).pending = s.pending := rfl
@[simp] theorem State.withHtr_nowMs (v : Htr) : (s.withHtr v).nowMs = s.nowMs := rfl
@[simp] theorem State.withHtr_withHtr (v v' : Htr) : (s.withHtr v).withHtr v' = s.withHtr v' := rfl
@[simp] theorem State.withHtr_self : s.withHtr s.htr = s := rfl

@[simp] theorem State.withIsm_time (v : Ism) : (s.withIsm v).time = s.time := rfl
@[simp] theorem State.withIsm_inputs (v : Ism) : (s.withIsm v).inputs = s.inputs := rfl
@[simp] theorem State.withIsm_mfe (v : Ism) : (s.withIsm v).mfe = s.mfe := rfl
@[simp] theorem State.withIsm_seq (v : Ism) : (s.withIsm v).seq = s.seq := rfl
@[simp] theorem State.withIsm_alc (v : Ism) : (s.withIsm v).alc = s.alc := rfl
@[simp] theorem State.withIsm_htr (v : Ism) : (s.withIsm v).htr = s.htr := rfl
@[simp] theorem State.withIsm_ism (v : Ism) : (s.withIsm v).ism = v := rfl
@[simp] theorem State.withIsm_mtr (v : Ism) : (s.withIsm v).mtr = s.mtr := rfl
@[simp] theorem State.withIsm_bil (v : Ism) : (s.withIsm v).bil = s.bil := rfl
@[simp] theorem State.withIsm_evt (v : Ism) : (s.withIsm v).evt = s.evt := rfl
@[simp] theorem State.withIsm_lnk (v : Ism) : (s.withIsm v).lnk = s.lnk := rfl
@[simp] theorem State.withIsm_pending (v : Ism) : (s.withIsm v).pending = s.pending := rfl
@[simp] theorem State.withIsm_nowMs (v : Ism) : (s.withIsm v).nowMs = s.nowMs := rfl
@[simp] theorem State.withIsm_withIsm (v v' : Ism) : (s.withIsm v).withIsm v' = s.withIsm v' := rfl
@[simp] theorem State.withIsm_self : s.withIsm s.ism = s := rfl

@[simp] theorem State.withMtr_time (v : Mtr) : (s.withMtr v).time = s.time := rfl
@[simp] theorem State.withMtr_inputs (v : Mtr) : (s.withMtr v).inputs = s.inputs := rfl
@[simp] theorem State.withMtr_mfe (v : Mtr) : (s.withMtr v).mfe = s.mfe := rfl
@[simp] theorem State.withMtr_seq (v : Mtr) : (s.withMtr v).seq = s.seq := rfl
@[simp] theorem State.withMtr_alc (v : Mtr) : (s.withMtr v).alc = s.alc := rfl
@[simp] theorem State.withMtr_htr (v : Mtr) : (s.withMtr v).htr = s.htr := rfl
@[simp] theorem State.withMtr_ism (v : Mtr) : (s.withMtr v).ism = s.ism := rfl
@[simp] theorem State.withMtr_mtr (v : Mtr) : (s.withMtr v).mtr = v := rfl
@[simp] theorem State.withMtr_bil (v : Mtr) : (s.withMtr v).bil = s.bil := rfl
@[simp] theorem State.withMtr_evt (v : Mtr) : (s.withMtr v).evt = s.evt := rfl
@[simp] theorem State.withMtr_lnk (v : Mtr) : (s.withMtr v).lnk = s.lnk := rfl
@[simp] theorem State.withMtr_pending (v : Mtr) : (s.withMtr v).pending = s.pending := rfl
@[simp] theorem State.withMtr_nowMs (v : Mtr) : (s.withMtr v).nowMs = s.nowMs := rfl
@[simp] theorem State.withMtr_withMtr (v v' : Mtr) : (s.withMtr v).withMtr v' = s.withMtr v' := rfl
@[simp] theorem State.withMtr_self : s.withMtr s.mtr = s := rfl

@[simp] theorem State.withBil_time (v : Bil) : (s.withBil v).time = s.time := rfl
@[simp] theorem State.withBil_inputs (v : Bil) : (s.withBil v).inputs = s.inputs := rfl
@[simp] theorem State.withBil_mfe (v : Bil) : (s.withBil v).mfe = s.mfe := rfl
@[simp] theorem State.withBil_seq (v : Bil) : (s.withBil v).seq = s.seq := rfl
@[simp] theorem State.withBil_alc (v : Bil) : (s.withBil v).alc = s.alc := rfl
@[simp] theorem State.withBil_htr (v : Bil) : (s.withBil v).htr = s.htr := rfl
@[simp] theorem State.withBil_ism (v : Bil) : (s.withBil v).ism = s.ism := rfl
@[simp] theorem State.withBil_mtr (v : Bil) : (s.withBil v).mtr = s.mtr := rfl
@[simp] theorem State.withBil_bil (v : Bil) : (s.withBil v).bil = v := rfl
@[simp] theorem State.withBil_evt (v : Bil) : (s.withBil v).evt = s.evt := rfl
@[simp] theorem State.withBil_lnk (v : Bil) : (s.withBil v).lnk = s.lnk := rfl
@[simp] theorem State.withBil_pending (v : Bil) : (s.withBil v).pending = s.pending := rfl
@[simp] theorem State.withBil_nowMs (v : Bil) : (s.withBil v).nowMs = s.nowMs := rfl
@[simp] theorem State.withBil_withBil (v v' : Bil) : (s.withBil v).withBil v' = s.withBil v' := rfl
@[simp] theorem State.withBil_self : s.withBil s.bil = s := rfl

@[simp] theorem State.withEvt_time (v : Evt) : (s.withEvt v).time = s.time := rfl
@[simp] theorem State.withEvt_inputs (v : Evt) : (s.withEvt v).inputs = s.inputs := rfl
@[simp] theorem State.withEvt_mfe (v : Evt) : (s.withEvt v).mfe = s.mfe := rfl
@[simp] theorem State.withEvt_seq (v : Evt) : (s.withEvt v).seq = s.seq := rfl
@[simp] theorem State.withEvt_alc (v : Evt) : (s.withEvt v).alc = s.alc := rfl
@[simp] theorem State.withEvt_htr (v : Evt) : (s.withEvt v).htr = s.htr := rfl
@[simp] theorem State.withEvt_ism (v : Evt) : (s.withEvt v).ism = s.ism := rfl
@[simp] theorem State.withEvt_mtr (v : Evt) : (s.withEvt v).mtr = s.mtr := rfl
@[simp] theorem State.withEvt_bil (v : Evt) : (s.withEvt v).bil = s.bil := rfl
@[simp] theorem State.withEvt_evt (v : Evt) : (s.withEvt v).evt = v := rfl
@[simp] theorem State.withEvt_lnk (v : Evt) : (s.withEvt v).lnk = s.lnk := rfl
@[simp] theorem State.withEvt_pending (v : Evt) : (s.withEvt v).pending = s.pending := rfl
@[simp] theorem State.withEvt_nowMs (v : Evt) : (s.withEvt v).nowMs = s.nowMs := rfl
@[simp] theorem State.withEvt_withEvt (v v' : Evt) : (s.withEvt v).withEvt v' = s.withEvt v' := rfl
@[simp] theorem State.withEvt_self : s.withEvt s.evt = s := rfl

@[simp] theorem State.withLnk_time (v : Lnk) : (s.withLnk v).time = s.time := rfl
@[simp] theorem State.withLnk_inputs (v : Lnk) : (s.withLnk v).inputs = s.inputs := rfl
@[simp] theorem State.withLnk_mfe (v : Lnk) : (s.withLnk v).mfe = s.mfe := rfl
@[simp] theorem State.withLnk_seq (v : Lnk) : (s.withLnk v).seq = s.seq := rfl
@[simp] theorem State.withLnk_alc (v : Lnk) : (s.withLnk v).alc = s.alc := rfl
@[simp] theorem State.withLnk_htr (v : Lnk) : (s.withLnk v).htr = s.htr := rfl
@[simp] theorem State.withLnk_ism (v : Lnk) : (s.withLnk v).ism = s.ism := rfl
@[simp] theorem State.withLnk_mtr (v : Lnk) : (s.withLnk v).mtr = s.mtr := rfl
@[simp] theorem State.withLnk_bil (v : Lnk) : (s.withLnk v).bil = s.bil := rfl
@[simp] theorem State.withLnk_evt (v : Lnk) : (s.withLnk v).evt = s.evt := rfl
@[simp] theorem State.withLnk_lnk (v : Lnk) : (s.withLnk v).lnk = v := rfl
@[simp] theorem State.withLnk_pending (v : Lnk) : (s.withLnk v).pending = s.pending := rfl
@[simp] theorem State.withLnk_nowMs (v : Lnk) : (s.withLnk v).nowMs = s.nowMs := rfl
@[simp] theorem State.withLnk_withLnk (v v' : Lnk) : (s.withLnk v).withLnk v' = s.withLnk v' := rfl
@[simp] theorem State.withLnk_self : s.withLnk s.lnk = s := rfl

@[simp] theorem State.withPending_time (v : List Instr) : (s.withPending v).time = s.time := rfl
@[simp] theorem State.withPending_inputs (v : List Instr) : (s.withPending v).inputs = s.inputs := rfl
@[simp] theorem State.withPending_mfe (v : List Instr) : (s.withPending v).mfe = s.mfe := rfl
@[simp] theorem State.withPending_seq (v : List Instr) : (s.withPending v).seq = s.seq := rfl
@[simp] theorem State.withPending_alc (v : List Instr) : (s.withPending v).alc = s.alc := rfl
@[simp] theorem State.withPending_htr (v : List Instr) : (s.withPending v).htr = s.htr := rfl
@[simp] theorem State.withPending_ism (v : List Instr) : (s.withPending v).ism = s.ism := rfl
@[simp] theorem State.withPending_mtr (v : List Instr) : (s.withPending v).mtr = s.mtr := rfl
@[simp] theorem State.withPending_bil (v : List Instr) : (s.withPending v).bil = s.bil := rfl
@[simp] theorem State.withPending_evt (v : List Instr) : (s.withPending v).evt = s.evt := rfl
@[simp] theorem State.withPending_lnk (v : List Instr) : (s.withPending v).lnk = s.lnk := rfl
@[simp] theorem State.withPending_pending (v : List Instr) : (s.withPending v).pending = v := rfl
@[simp] theorem State.withPending_nowMs (v : List Instr) : (s.withPending v).nowMs = s.nowMs := rfl
@[simp] theorem State.withPending_withPending (v v' : List Instr) : (s.withPending v).withPending v' = s.withPending v' := rfl
@[simp] theorem State.withPending_self : s.withPending s.pending = s := rfl

end Sys2Proof.Machine
end

