-- ==== Sys2Proof/Laws/Frames.lean ====
section
/-! SUPPORT. The frames of the shared operations: for each, the parts of the state it leaves alone. -/
namespace Sys2Proof.Machine
open Sys2Proof

set_option Elab.async false
set_option linter.unusedSimpArgs false

variable (s : State)

@[simp] theorem raise_time (d : EventData) : (raise d s).time = s.time := rfl
@[simp] theorem raise_inputs (d : EventData) : (raise d s).inputs = s.inputs := rfl
@[simp] theorem raise_mfe (d : EventData) : (raise d s).mfe = s.mfe := rfl
@[simp] theorem raise_seq (d : EventData) : (raise d s).seq = s.seq := rfl
@[simp] theorem raise_alc (d : EventData) : (raise d s).alc = s.alc := rfl
@[simp] theorem raise_htr (d : EventData) : (raise d s).htr = s.htr := rfl
@[simp] theorem raise_ism (d : EventData) : (raise d s).ism = s.ism := rfl
@[simp] theorem raise_mtr (d : EventData) : (raise d s).mtr = s.mtr := rfl
@[simp] theorem raise_bil (d : EventData) : (raise d s).bil = s.bil := rfl
@[simp] theorem raise_lnk (d : EventData) : (raise d s).lnk = s.lnk := rfl
@[simp] theorem raise_pending (d : EventData) : (raise d s).pending = s.pending := rfl
@[simp] theorem raise_nowMs (d : EventData) : (raise d s).nowMs = s.nowMs := rfl
@[simp] theorem count_time (f : LinkCounts → LinkCounts) : (count f s).time = s.time := rfl
@[simp] theorem count_inputs (f : LinkCounts → LinkCounts) : (count f s).inputs = s.inputs := rfl
@[simp] theorem count_mfe (f : LinkCounts → LinkCounts) : (count f s).mfe = s.mfe := rfl
@[simp] theorem count_seq (f : LinkCounts → LinkCounts) : (count f s).seq = s.seq := rfl
@[simp] theorem count_alc (f : LinkCounts → LinkCounts) : (count f s).alc = s.alc := rfl
@[simp] theorem count_htr (f : LinkCounts → LinkCounts) : (count f s).htr = s.htr := rfl
@[simp] theorem count_ism (f : LinkCounts → LinkCounts) : (count f s).ism = s.ism := rfl
@[simp] theorem count_mtr (f : LinkCounts → LinkCounts) : (count f s).mtr = s.mtr := rfl
@[simp] theorem count_bil (f : LinkCounts → LinkCounts) : (count f s).bil = s.bil := rfl
@[simp] theorem count_evt (f : LinkCounts → LinkCounts) : (count f s).evt = s.evt := rfl
@[simp] theorem count_pending (f : LinkCounts → LinkCounts) : (count f s).pending = s.pending := rfl
@[simp] theorem count_nowMs (f : LinkCounts → LinkCounts) : (count f s).nowMs = s.nowMs := rfl
@[simp] theorem arrive_time (a : Arrival) : (arrive a s).time = s.time + a.elapsed := rfl
@[simp] theorem arrive_inputs (a : Arrival) : (arrive a s).inputs = s.inputs := rfl
@[simp] theorem arrive_seq (a : Arrival) : (arrive a s).seq = s.seq := rfl
@[simp] theorem arrive_alc (a : Arrival) : (arrive a s).alc = s.alc := rfl
@[simp] theorem arrive_htr (a : Arrival) : (arrive a s).htr = s.htr := rfl
@[simp] theorem arrive_ism (a : Arrival) : (arrive a s).ism = s.ism := rfl
@[simp] theorem arrive_mtr (a : Arrival) : (arrive a s).mtr = s.mtr := rfl
@[simp] theorem arrive_bil (a : Arrival) : (arrive a s).bil = s.bil := rfl
@[simp] theorem arrive_evt (a : Arrival) : (arrive a s).evt = s.evt := rfl
@[simp] theorem arrive_lnk (a : Arrival) : (arrive a s).lnk = s.lnk := rfl
@[simp] theorem arrive_pending (a : Arrival) : (arrive a s).pending = s.pending := rfl
@[simp] theorem sendFrame_time (k : Byte) (p : List Byte) (r : Bool) : (sendFrame k p r s).time = s.time := rfl
@[simp] theorem sendFrame_inputs (k : Byte) (p : List Byte) (r : Bool) : (sendFrame k p r s).inputs = s.inputs := rfl
@[simp] theorem sendFrame_mfe (k : Byte) (p : List Byte) (r : Bool) : (sendFrame k p r s).mfe = s.mfe := rfl
@[simp] theorem sendFrame_seq (k : Byte) (p : List Byte) (r : Bool) : (sendFrame k p r s).seq = s.seq := rfl
@[simp] theorem sendFrame_alc (k : Byte) (p : List Byte) (r : Bool) : (sendFrame k p r s).alc = s.alc := rfl
@[simp] theorem sendFrame_htr (k : Byte) (p : List Byte) (r : Bool) : (sendFrame k p r s).htr = s.htr := rfl
@[simp] theorem sendFrame_ism (k : Byte) (p : List Byte) (r : Bool) : (sendFrame k p r s).ism = s.ism := rfl
@[simp] theorem sendFrame_mtr (k : Byte) (p : List Byte) (r : Bool) : (sendFrame k p r s).mtr = s.mtr := rfl
@[simp] theorem sendFrame_bil (k : Byte) (p : List Byte) (r : Bool) : (sendFrame k p r s).bil = s.bil := rfl
@[simp] theorem sendFrame_evt (k : Byte) (p : List Byte) (r : Bool) : (sendFrame k p r s).evt = s.evt := rfl
@[simp] theorem sendFrame_pending (k : Byte) (p : List Byte) (r : Bool) : (sendFrame k p r s).pending = s.pending := rfl
@[simp] theorem sendFrame_nowMs (k : Byte) (p : List Byte) (r : Bool) : (sendFrame k p r s).nowMs = s.nowMs := rfl
@[simp] theorem takeReply_time (r : SlotRequest) : (takeReply r s).time = s.time := by
  unfold takeReply; try dsimp only
  (repeat' split) <;> simp [apply_ite State.time]
@[simp] theorem takeReply_inputs (r : SlotRequest) : (takeReply r s).inputs = s.inputs := by
  unfold takeReply; try dsimp only
  (repeat' split) <;> simp [apply_ite State.inputs]
@[simp] theorem takeReply_mfe (r : SlotRequest) : (takeReply r s).mfe = s.mfe := by
  unfold takeReply; try dsimp only
  (repeat' split) <;> simp [apply_ite State.mfe]
@[simp] theorem takeReply_seq (r : SlotRequest) : (takeReply r s).seq = s.seq := by
  unfold takeReply; try dsimp only
  (repeat' split) <;> simp [apply_ite State.seq]
@[simp] theorem takeReply_alc (r : SlotRequest) : (takeReply r s).alc = s.alc := by
  unfold takeReply; try dsimp only
  (repeat' split) <;> simp [apply_ite State.alc]
@[simp] theorem takeReply_htr (r : SlotRequest) : (takeReply r s).htr = s.htr := by
  unfold takeReply; try dsimp only
  (repeat' split) <;> simp [apply_ite State.htr]
@[simp] theorem takeReply_ism (r : SlotRequest) : (takeReply r s).ism = s.ism := by
  unfold takeReply; try dsimp only
  (repeat' split) <;> simp [apply_ite State.ism]
@[simp] theorem takeReply_mtr (r : SlotRequest) : (takeReply r s).mtr = s.mtr := by
  unfold takeReply; try dsimp only
  (repeat' split) <;> simp [apply_ite State.mtr]
@[simp] theorem takeReply_bil (r : SlotRequest) : (takeReply r s).bil = s.bil := by
  unfold takeReply; try dsimp only
  (repeat' split) <;> simp [apply_ite State.bil]
@[simp] theorem takeReply_evt (r : SlotRequest) : (takeReply r s).evt = s.evt := by
  unfold takeReply; try dsimp only
  (repeat' split) <;> simp [apply_ite State.evt]
@[simp] theorem takeReply_pending (r : SlotRequest) : (takeReply r s).pending = s.pending := by
  unfold takeReply; try dsimp only
  (repeat' split) <;> simp [apply_ite State.pending]
@[simp] theorem takeReply_nowMs (r : SlotRequest) : (takeReply r s).nowMs = s.nowMs := by simp [State.nowMs]
@[simp] theorem takeBusy_time (k : Byte) : (takeBusy k s).time = s.time := by
  unfold takeBusy; try dsimp only
  (repeat' split) <;> simp [apply_ite State.time]
@[simp] theorem takeBusy_inputs (k : Byte) : (takeBusy k s).inputs = s.inputs := by
  unfold takeBusy; try dsimp only
  (repeat' split) <;> simp [apply_ite State.inputs]
@[simp] theorem takeBusy_mfe (k : Byte) : (takeBusy k s).mfe = s.mfe := by
  unfold takeBusy; try dsimp only
  (repeat' split) <;> simp [apply_ite State.mfe]
@[simp] theorem takeBusy_seq (k : Byte) : (takeBusy k s).seq = s.seq := by
  unfold takeBusy; try dsimp only
  (repeat' split) <;> simp [apply_ite State.seq]
@[simp] theorem takeBusy_alc (k : Byte) : (takeBusy k s).alc = s.alc := by
  unfold takeBusy; try dsimp only
  (repeat' split) <;> simp [apply_ite State.alc]
@[simp] theorem takeBusy_htr (k : Byte) : (takeBusy k s).htr = s.htr := by
  unfold takeBusy; try dsimp only
  (repeat' split) <;> simp [apply_ite State.htr]
@[simp] theorem takeBusy_ism (k : Byte) : (takeBusy k s).ism = s.ism := by
  unfold takeBusy; try dsimp only
  (repeat' split) <;> simp [apply_ite State.ism]
@[simp] theorem takeBusy_mtr (k : Byte) : (takeBusy k s).mtr = s.mtr := by
  unfold takeBusy; try dsimp only
  (repeat' split) <;> simp [apply_ite State.mtr]
@[simp] theorem takeBusy_bil (k : Byte) : (takeBusy k s).bil = s.bil := by
  unfold takeBusy; try dsimp only
  (repeat' split) <;> simp [apply_ite State.bil]
@[simp] theorem takeBusy_evt (k : Byte) : (takeBusy k s).evt = s.evt := by
  unfold takeBusy; try dsimp only
  (repeat' split) <;> simp [apply_ite State.evt]
@[simp] theorem takeBusy_pending (k : Byte) : (takeBusy k s).pending = s.pending := by
  unfold takeBusy; try dsimp only
  (repeat' split) <;> simp [apply_ite State.pending]
@[simp] theorem takeBusy_nowMs (k : Byte) : (takeBusy k s).nowMs = s.nowMs := by simp [State.nowMs]
@[simp] theorem takeNotice_time (k : Fin 14) : (takeNotice k s).time = s.time := by
  unfold takeNotice; try dsimp only
  (repeat' split) <;> simp [apply_ite State.time]
@[simp] theorem takeNotice_inputs (k : Fin 14) : (takeNotice k s).inputs = s.inputs := by
  unfold takeNotice; try dsimp only
  (repeat' split) <;> simp [apply_ite State.inputs]
@[simp] theorem takeNotice_mfe (k : Fin 14) : (takeNotice k s).mfe = s.mfe := by
  unfold takeNotice; try dsimp only
  (repeat' split) <;> simp [apply_ite State.mfe]
@[simp] theorem takeNotice_seq (k : Fin 14) : (takeNotice k s).seq = s.seq := by
  unfold takeNotice; try dsimp only
  (repeat' split) <;> simp [apply_ite State.seq]
@[simp] theorem takeNotice_alc (k : Fin 14) : (takeNotice k s).alc = s.alc := by
  unfold takeNotice; try dsimp only
  (repeat' split) <;> simp [apply_ite State.alc]
@[simp] theorem takeNotice_htr (k : Fin 14) : (takeNotice k s).htr = s.htr := by
  unfold takeNotice; try dsimp only
  (repeat' split) <;> simp [apply_ite State.htr]
@[simp] theorem takeNotice_ism (k : Fin 14) : (takeNotice k s).ism = s.ism := by
  unfold takeNotice; try dsimp only
  (repeat' split) <;> simp [apply_ite State.ism]
@[simp] theorem takeNotice_mtr (k : Fin 14) : (takeNotice k s).mtr = s.mtr := by
  unfold takeNotice; try dsimp only
  (repeat' split) <;> simp [apply_ite State.mtr]
@[simp] theorem takeNotice_bil (k : Fin 14) : (takeNotice k s).bil = s.bil := by
  unfold takeNotice; try dsimp only
  (repeat' split) <;> simp [apply_ite State.bil]
@[simp] theorem takeNotice_pending (k : Fin 14) : (takeNotice k s).pending = s.pending := by
  unfold takeNotice; try dsimp only
  (repeat' split) <;> simp [apply_ite State.pending]
@[simp] theorem takeNotice_nowMs (k : Fin 14) : (takeNotice k s).nowMs = s.nowMs := by simp [State.nowMs]
@[simp] theorem pump_time : (pump s).time = s.time := by
  unfold pump; try dsimp only
  (repeat' split) <;> simp [apply_ite State.time]
@[simp] theorem pump_inputs : (pump s).inputs = s.inputs := by
  unfold pump; try dsimp only
  (repeat' split) <;> simp [apply_ite State.inputs]
@[simp] theorem pump_mfe : (pump s).mfe = s.mfe := by
  unfold pump; try dsimp only
  (repeat' split) <;> simp [apply_ite State.mfe]
@[simp] theorem pump_seq : (pump s).seq = s.seq := by
  unfold pump; try dsimp only
  (repeat' split) <;> simp [apply_ite State.seq]
@[simp] theorem pump_alc : (pump s).alc = s.alc := by
  unfold pump; try dsimp only
  (repeat' split) <;> simp [apply_ite State.alc]
@[simp] theorem pump_htr : (pump s).htr = s.htr := by
  unfold pump; try dsimp only
  (repeat' split) <;> simp [apply_ite State.htr]
@[simp] theorem pump_ism : (pump s).ism = s.ism := by
  unfold pump; try dsimp only
  (repeat' split) <;> simp [apply_ite State.ism]
@[simp] theorem pump_mtr : (pump s).mtr = s.mtr := by
  unfold pump; try dsimp only
  (repeat' split) <;> simp [apply_ite State.mtr]
@[simp] theorem pump_bil : (pump s).bil = s.bil := by
  unfold pump; try dsimp only
  (repeat' split) <;> simp [apply_ite State.bil]
@[simp] theorem pump_pending : (pump s).pending = s.pending := by
  unfold pump; try dsimp only
  (repeat' split) <;> simp [apply_ite State.pending]
@[simp] theorem pump_nowMs : (pump s).nowMs = s.nowMs := by simp [State.nowMs]
@[simp] theorem oweBusy_time (k : Byte) : (oweBusy k s).time = s.time := rfl
@[simp] theorem oweBusy_inputs (k : Byte) : (oweBusy k s).inputs = s.inputs := rfl
@[simp] theorem oweBusy_mfe (k : Byte) : (oweBusy k s).mfe = s.mfe := rfl
@[simp] theorem oweBusy_seq (k : Byte) : (oweBusy k s).seq = s.seq := rfl
@[simp] theorem oweBusy_alc (k : Byte) : (oweBusy k s).alc = s.alc := rfl
@[simp] theorem oweBusy_htr (k : Byte) : (oweBusy k s).htr = s.htr := rfl
@[simp] theorem oweBusy_ism (k : Byte) : (oweBusy k s).ism = s.ism := rfl
@[simp] theorem oweBusy_mtr (k : Byte) : (oweBusy k s).mtr = s.mtr := rfl
@[simp] theorem oweBusy_bil (k : Byte) : (oweBusy k s).bil = s.bil := rfl
@[simp] theorem oweBusy_evt (k : Byte) : (oweBusy k s).evt = s.evt := rfl
@[simp] theorem oweBusy_pending (k : Byte) : (oweBusy k s).pending = s.pending := rfl
@[simp] theorem oweBusy_nowMs (k : Byte) : (oweBusy k s).nowMs = s.nowMs := rfl
@[simp] theorem overrun_time : (overrun s).time = s.time := by
  unfold overrun; try dsimp only
  (repeat' split) <;> simp [apply_ite State.time]
@[simp] theorem overrun_inputs : (overrun s).inputs = s.inputs := by
  unfold overrun; try dsimp only
  (repeat' split) <;> simp [apply_ite State.inputs]
@[simp] theorem overrun_mfe : (overrun s).mfe = s.mfe := by
  unfold overrun; try dsimp only
  (repeat' split) <;> simp [apply_ite State.mfe]
@[simp] theorem overrun_seq : (overrun s).seq = s.seq := by
  unfold overrun; try dsimp only
  (repeat' split) <;> simp [apply_ite State.seq]
@[simp] theorem overrun_alc : (overrun s).alc = s.alc := by
  unfold overrun; try dsimp only
  (repeat' split) <;> simp [apply_ite State.alc]
@[simp] theorem overrun_htr : (overrun s).htr = s.htr := by
  unfold overrun; try dsimp only
  (repeat' split) <;> simp [apply_ite State.htr]
@[simp] theorem overrun_ism : (overrun s).ism = s.ism := by
  unfold overrun; try dsimp only
  (repeat' split) <;> simp [apply_ite State.ism]
@[simp] theorem overrun_mtr : (overrun s).mtr = s.mtr := by
  unfold overrun; try dsimp only
  (repeat' split) <;> simp [apply_ite State.mtr]
@[simp] theorem overrun_bil : (overrun s).bil = s.bil := by
  unfold overrun; try dsimp only
  (repeat' split) <;> simp [apply_ite State.bil]
@[simp] theorem overrun_pending : (overrun s).pending = s.pending := by
  unfold overrun; try dsimp only
  (repeat' split) <;> simp [apply_ite State.pending]
@[simp] theorem overrun_nowMs : (overrun s).nowMs = s.nowMs := by simp [State.nowMs]
@[simp] theorem setRx_time (r : Assembler) : (setRx r s).time = s.time := rfl
@[simp] theorem setRx_inputs (r : Assembler) : (setRx r s).inputs = s.inputs := rfl
@[simp] theorem setRx_mfe (r : Assembler) : (setRx r s).mfe = s.mfe := rfl
@[simp] theorem setRx_seq (r : Assembler) : (setRx r s).seq = s.seq := rfl
@[simp] theorem setRx_alc (r : Assembler) : (setRx r s).alc = s.alc := rfl
@[simp] theorem setRx_htr (r : Assembler) : (setRx r s).htr = s.htr := rfl
@[simp] theorem setRx_ism (r : Assembler) : (setRx r s).ism = s.ism := rfl
@[simp] theorem setRx_mtr (r : Assembler) : (setRx r s).mtr = s.mtr := rfl
@[simp] theorem setRx_bil (r : Assembler) : (setRx r s).bil = s.bil := rfl
@[simp] theorem setRx_evt (r : Assembler) : (setRx r s).evt = s.evt := rfl
@[simp] theorem setRx_pending (r : Assembler) : (setRx r s).pending = s.pending := rfl
@[simp] theorem setRx_nowMs (r : Assembler) : (setRx r s).nowMs = s.nowMs := rfl
@[simp] theorem linkError_time (r : LinkReason) (f : LinkCounts → LinkCounts) : (linkError r f s).time = s.time := by
  unfold linkError; try dsimp only
  (repeat' split) <;> simp [apply_ite State.time]
@[simp] theorem linkError_inputs (r : LinkReason) (f : LinkCounts → LinkCounts) : (linkError r f s).inputs = s.inputs := by
  unfold linkError; try dsimp only
  (repeat' split) <;> simp [apply_ite State.inputs]
@[simp] theorem linkError_mfe (r : LinkReason) (f : LinkCounts → LinkCounts) : (linkError r f s).mfe = s.mfe := by
  unfold linkError; try dsimp only
  (repeat' split) <;> simp [apply_ite State.mfe]
@[simp] theorem linkError_seq (r : LinkReason) (f : LinkCounts → LinkCounts) : (linkError r f s).seq = s.seq := by
  unfold linkError; try dsimp only
  (repeat' split) <;> simp [apply_ite State.seq]
@[simp] theorem linkError_alc (r : LinkReason) (f : LinkCounts → LinkCounts) : (linkError r f s).alc = s.alc := by
  unfold linkError; try dsimp only
  (repeat' split) <;> simp [apply_ite State.alc]
@[simp] theorem linkError_htr (r : LinkReason) (f : LinkCounts → LinkCounts) : (linkError r f s).htr = s.htr := by
  unfold linkError; try dsimp only
  (repeat' split) <;> simp [apply_ite State.htr]
@[simp] theorem linkError_ism (r : LinkReason) (f : LinkCounts → LinkCounts) : (linkError r f s).ism = s.ism := by
  unfold linkError; try dsimp only
  (repeat' split) <;> simp [apply_ite State.ism]
@[simp] theorem linkError_mtr (r : LinkReason) (f : LinkCounts → LinkCounts) : (linkError r f s).mtr = s.mtr := by
  unfold linkError; try dsimp only
  (repeat' split) <;> simp [apply_ite State.mtr]
@[simp] theorem linkError_bil (r : LinkReason) (f : LinkCounts → LinkCounts) : (linkError r f s).bil = s.bil := by
  unfold linkError; try dsimp only
  (repeat' split) <;> simp [apply_ite State.bil]
@[simp] theorem linkError_pending (r : LinkReason) (f : LinkCounts → LinkCounts) : (linkError r f s).pending = s.pending := by
  unfold linkError; try dsimp only
  (repeat' split) <;> simp [apply_ite State.pending]
@[simp] theorem linkError_nowMs (r : LinkReason) (f : LinkCounts → LinkCounts) : (linkError r f s).nowMs = s.nowMs := by simp [State.nowMs]
@[simp] theorem billSample_time (k : SampleKind) (i h : Nat) (p : Int) : (billSample k i h p s).time = s.time := by
  unfold billSample; try dsimp only
  (repeat' split) <;> simp [apply_ite State.time]
@[simp] theorem billSample_inputs (k : SampleKind) (i h : Nat) (p : Int) : (billSample k i h p s).inputs = s.inputs := by
  unfold billSample; try dsimp only
  (repeat' split) <;> simp [apply_ite State.inputs]
@[simp] theorem billSample_mfe (k : SampleKind) (i h : Nat) (p : Int) : (billSample k i h p s).mfe = s.mfe := by
  unfold billSample; try dsimp only
  (repeat' split) <;> simp [apply_ite State.mfe]
@[simp] theorem billSample_seq (k : SampleKind) (i h : Nat) (p : Int) : (billSample k i h p s).seq = s.seq := by
  unfold billSample; try dsimp only
  (repeat' split) <;> simp [apply_ite State.seq]
@[simp] theorem billSample_alc (k : SampleKind) (i h : Nat) (p : Int) : (billSample k i h p s).alc = s.alc := by
  unfold billSample; try dsimp only
  (repeat' split) <;> simp [apply_ite State.alc]
@[simp] theorem billSample_htr (k : SampleKind) (i h : Nat) (p : Int) : (billSample k i h p s).htr = s.htr := by
  unfold billSample; try dsimp only
  (repeat' split) <;> simp [apply_ite State.htr]
@[simp] theorem billSample_ism (k : SampleKind) (i h : Nat) (p : Int) : (billSample k i h p s).ism = s.ism := by
  unfold billSample; try dsimp only
  (repeat' split) <;> simp [apply_ite State.ism]
@[simp] theorem billSample_mtr (k : SampleKind) (i h : Nat) (p : Int) : (billSample k i h p s).mtr = s.mtr := by
  unfold billSample; try dsimp only
  (repeat' split) <;> simp [apply_ite State.mtr]
@[simp] theorem billSample_evt (k : SampleKind) (i h : Nat) (p : Int) : (billSample k i h p s).evt = s.evt := by
  unfold billSample; try dsimp only
  (repeat' split) <;> simp [apply_ite State.evt]
@[simp] theorem billSample_lnk (k : SampleKind) (i h : Nat) (p : Int) : (billSample k i h p s).lnk = s.lnk := by
  unfold billSample; try dsimp only
  (repeat' split) <;> simp [apply_ite State.lnk]
@[simp] theorem billSample_pending (k : SampleKind) (i h : Nat) (p : Int) : (billSample k i h p s).pending = s.pending := by
  unfold billSample; try dsimp only
  (repeat' split) <;> simp [apply_ite State.pending]
@[simp] theorem billSample_nowMs (k : SampleKind) (i h : Nat) (p : Int) : (billSample k i h p s).nowMs = s.nowMs := by simp [State.nowMs]
@[simp] theorem noteInsulation_time (n : Nat) : (noteInsulation n s).time = s.time := by
  unfold noteInsulation; try dsimp only
  (repeat' split) <;> simp [apply_ite State.time]
@[simp] theorem noteInsulation_inputs (n : Nat) : (noteInsulation n s).inputs = s.inputs := by
  unfold noteInsulation; try dsimp only
  (repeat' split) <;> simp [apply_ite State.inputs]
@[simp] theorem noteInsulation_mfe (n : Nat) : (noteInsulation n s).mfe = s.mfe := by
  unfold noteInsulation; try dsimp only
  (repeat' split) <;> simp [apply_ite State.mfe]
@[simp] theorem noteInsulation_seq (n : Nat) : (noteInsulation n s).seq = s.seq := by
  unfold noteInsulation; try dsimp only
  (repeat' split) <;> simp [apply_ite State.seq]
@[simp] theorem noteInsulation_alc (n : Nat) : (noteInsulation n s).alc = s.alc := by
  unfold noteInsulation; try dsimp only
  (repeat' split) <;> simp [apply_ite State.alc]
@[simp] theorem noteInsulation_htr (n : Nat) : (noteInsulation n s).htr = s.htr := by
  unfold noteInsulation; try dsimp only
  (repeat' split) <;> simp [apply_ite State.htr]
@[simp] theorem noteInsulation_ism (n : Nat) : (noteInsulation n s).ism = s.ism := by
  unfold noteInsulation; try dsimp only
  (repeat' split) <;> simp [apply_ite State.ism]
@[simp] theorem noteInsulation_mtr (n : Nat) : (noteInsulation n s).mtr = s.mtr := by
  unfold noteInsulation; try dsimp only
  (repeat' split) <;> simp [apply_ite State.mtr]
@[simp] theorem noteInsulation_evt (n : Nat) : (noteInsulation n s).evt = s.evt := by
  unfold noteInsulation; try dsimp only
  (repeat' split) <;> simp [apply_ite State.evt]
@[simp] theorem noteInsulation_lnk (n : Nat) : (noteInsulation n s).lnk = s.lnk := by
  unfold noteInsulation; try dsimp only
  (repeat' split) <;> simp [apply_ite State.lnk]
@[simp] theorem noteInsulation_pending (n : Nat) : (noteInsulation n s).pending = s.pending := by
  unfold noteInsulation; try dsimp only
  (repeat' split) <;> simp [apply_ite State.pending]
@[simp] theorem noteInsulation_nowMs (n : Nat) : (noteInsulation n s).nowMs = s.nowMs := by simp [State.nowMs]
@[simp] theorem openRecord_time (p : PendingStart) : (openRecord p s).time = s.time := rfl
@[simp] theorem openRecord_inputs (p : PendingStart) : (openRecord p s).inputs = s.inputs := rfl
@[simp] theorem openRecord_mfe (p : PendingStart) : (openRecord p s).mfe = s.mfe := rfl
@[simp] theorem openRecord_seq (p : PendingStart) : (openRecord p s).seq = s.seq := rfl
@[simp] theorem openRecord_alc (p : PendingStart) : (openRecord p s).alc = s.alc := rfl
@[simp] theorem openRecord_htr (p : PendingStart) : (openRecord p s).htr = s.htr := rfl
@[simp] theorem openRecord_ism (p : PendingStart) : (openRecord p s).ism = s.ism := rfl
@[simp] theorem openRecord_mtr (p : PendingStart) : (openRecord p s).mtr = s.mtr := rfl
@[simp] theorem openRecord_evt (p : PendingStart) : (openRecord p s).evt = s.evt := rfl
@[simp] theorem openRecord_lnk (p : PendingStart) : (openRecord p s).lnk = s.lnk := rfl
@[simp] theorem openRecord_pending (p : PendingStart) : (openRecord p s).pending = s.pending := rfl
@[simp] theorem openRecord_nowMs (p : PendingStart) : (openRecord p s).nowMs = s.nowMs := rfl
@[simp] theorem raiseJoin_time (n : Nat) (c : EndCause) : (raiseJoin n c s).time = s.time := by
  unfold raiseJoin; try dsimp only
  (repeat' split) <;> simp [apply_ite State.time]
@[simp] theorem raiseJoin_inputs (n : Nat) (c : EndCause) : (raiseJoin n c s).inputs = s.inputs := by
  unfold raiseJoin; try dsimp only
  (repeat' split) <;> simp [apply_ite State.inputs]
@[simp] theorem raiseJoin_mfe (n : Nat) (c : EndCause) : (raiseJoin n c s).mfe = s.mfe := by
  unfold raiseJoin; try dsimp only
  (repeat' split) <;> simp [apply_ite State.mfe]
@[simp] theorem raiseJoin_seq (n : Nat) (c : EndCause) : (raiseJoin n c s).seq = s.seq := by
  unfold raiseJoin; try dsimp only
  (repeat' split) <;> simp [apply_ite State.seq]
@[simp] theorem raiseJoin_alc (n : Nat) (c : EndCause) : (raiseJoin n c s).alc = s.alc := by
  unfold raiseJoin; try dsimp only
  (repeat' split) <;> simp [apply_ite State.alc]
@[simp] theorem raiseJoin_htr (n : Nat) (c : EndCause) : (raiseJoin n c s).htr = s.htr := by
  unfold raiseJoin; try dsimp only
  (repeat' split) <;> simp [apply_ite State.htr]
@[simp] theorem raiseJoin_ism (n : Nat) (c : EndCause) : (raiseJoin n c s).ism = s.ism := by
  unfold raiseJoin; try dsimp only
  (repeat' split) <;> simp [apply_ite State.ism]
@[simp] theorem raiseJoin_mtr (n : Nat) (c : EndCause) : (raiseJoin n c s).mtr = s.mtr := by
  unfold raiseJoin; try dsimp only
  (repeat' split) <;> simp [apply_ite State.mtr]
@[simp] theorem raiseJoin_bil (n : Nat) (c : EndCause) : (raiseJoin n c s).bil = s.bil := by
  unfold raiseJoin; try dsimp only
  (repeat' split) <;> simp [apply_ite State.bil]
@[simp] theorem raiseJoin_lnk (n : Nat) (c : EndCause) : (raiseJoin n c s).lnk = s.lnk := by
  unfold raiseJoin; try dsimp only
  (repeat' split) <;> simp [apply_ite State.lnk]
@[simp] theorem raiseJoin_pending (n : Nat) (c : EndCause) : (raiseJoin n c s).pending = s.pending := by
  unfold raiseJoin; try dsimp only
  (repeat' split) <;> simp [apply_ite State.pending]
@[simp] theorem raiseJoin_nowMs (n : Nat) (c : EndCause) : (raiseJoin n c s).nowMs = s.nowMs := by simp [State.nowMs]
@[simp] theorem closeRecord_time (c : EndCause) : (closeRecord c s).time = s.time := by
  unfold closeRecord; try dsimp only
  (repeat' split) <;> simp [apply_ite State.time]
@[simp] theorem closeRecord_inputs (c : EndCause) : (closeRecord c s).inputs = s.inputs := by
  unfold closeRecord; try dsimp only
  (repeat' split) <;> simp [apply_ite State.inputs]
@[simp] theorem closeRecord_mfe (c : EndCause) : (closeRecord c s).mfe = s.mfe := by
  unfold closeRecord; try dsimp only
  (repeat' split) <;> simp [apply_ite State.mfe]
@[simp] theorem closeRecord_seq (c : EndCause) : (closeRecord c s).seq = s.seq := by
  unfold closeRecord; try dsimp only
  (repeat' split) <;> simp [apply_ite State.seq]
@[simp] theorem closeRecord_alc (c : EndCause) : (closeRecord c s).alc = s.alc := by
  unfold closeRecord; try dsimp only
  (repeat' split) <;> simp [apply_ite State.alc]
@[simp] theorem closeRecord_htr (c : EndCause) : (closeRecord c s).htr = s.htr := by
  unfold closeRecord; try dsimp only
  (repeat' split) <;> simp [apply_ite State.htr]
@[simp] theorem closeRecord_ism (c : EndCause) : (closeRecord c s).ism = s.ism := by
  unfold closeRecord; try dsimp only
  (repeat' split) <;> simp [apply_ite State.ism]
@[simp] theorem closeRecord_lnk (c : EndCause) : (closeRecord c s).lnk = s.lnk := by
  unfold closeRecord; try dsimp only
  (repeat' split) <;> simp [apply_ite State.lnk]
@[simp] theorem closeRecord_pending (c : EndCause) : (closeRecord c s).pending = s.pending := by
  unfold closeRecord; try dsimp only
  (repeat' split) <;> simp [apply_ite State.pending]
@[simp] theorem closeRecord_nowMs (c : EndCause) : (closeRecord c s).nowMs = s.nowMs := by simp [State.nowMs]
@[simp] theorem accumulateSession_time (k : SampleKind) (p : Powers) (d : Nat) : (accumulateSession k p d s).time = s.time := by
  unfold accumulateSession; try dsimp only
  (repeat' split) <;> simp [apply_ite State.time]
@[simp] theorem accumulateSession_inputs (k : SampleKind) (p : Powers) (d : Nat) : (accumulateSession k p d s).inputs = s.inputs := by
  unfold accumulateSession; try dsimp only
  (repeat' split) <;> simp [apply_ite State.inputs]
@[simp] theorem accumulateSession_mfe (k : SampleKind) (p : Powers) (d : Nat) : (accumulateSession k p d s).mfe = s.mfe := by
  unfold accumulateSession; try dsimp only
  (repeat' split) <;> simp [apply_ite State.mfe]
@[simp] theorem accumulateSession_seq (k : SampleKind) (p : Powers) (d : Nat) : (accumulateSession k p d s).seq = s.seq := by
  unfold accumulateSession; try dsimp only
  (repeat' split) <;> simp [apply_ite State.seq]
@[simp] theorem accumulateSession_alc (k : SampleKind) (p : Powers) (d : Nat) : (accumulateSession k p d s).alc = s.alc := by
  unfold accumulateSession; try dsimp only
  (repeat' split) <;> simp [apply_ite State.alc]
@[simp] theorem accumulateSession_htr (k : SampleKind) (p : Powers) (d : Nat) : (accumulateSession k p d s).htr = s.htr := by
  unfold accumulateSession; try dsimp only
  (repeat' split) <;> simp [apply_ite State.htr]
@[simp] theorem accumulateSession_ism (k : SampleKind) (p : Powers) (d : Nat) : (accumulateSession k p d s).ism = s.ism := by
  unfold accumulateSession; try dsimp only
  (repeat' split) <;> simp [apply_ite State.ism]
@[simp] theorem accumulateSession_evt (k : SampleKind) (p : Powers) (d : Nat) : (accumulateSession k p d s).evt = s.evt := by
  unfold accumulateSession; try dsimp only
  (repeat' split) <;> simp [apply_ite State.evt]
@[simp] theorem accumulateSession_lnk (k : SampleKind) (p : Powers) (d : Nat) : (accumulateSession k p d s).lnk = s.lnk := by
  unfold accumulateSession; try dsimp only
  (repeat' split) <;> simp [apply_ite State.lnk]
@[simp] theorem accumulateSession_pending (k : SampleKind) (p : Powers) (d : Nat) : (accumulateSession k p d s).pending = s.pending := by
  unfold accumulateSession; try dsimp only
  (repeat' split) <;> simp [apply_ite State.pending]
@[simp] theorem accumulateSession_nowMs (k : SampleKind) (p : Powers) (d : Nat) : (accumulateSession k p d s).nowMs = s.nowMs := by simp [State.nowMs]
@[simp] theorem accumulateRun_time (p : Powers) (d : Nat) : (accumulateRun p d s).time = s.time := by
  unfold accumulateRun; try dsimp only
  (repeat' split) <;> simp [apply_ite State.time]
@[simp] theorem accumulateRun_inputs (p : Powers) (d : Nat) : (accumulateRun p d s).inputs = s.inputs := by
  unfold accumulateRun; try dsimp only
  (repeat' split) <;> simp [apply_ite State.inputs]
@[simp] theorem accumulateRun_mfe (p : Powers) (d : Nat) : (accumulateRun p d s).mfe = s.mfe := by
  unfold accumulateRun; try dsimp only
  (repeat' split) <;> simp [apply_ite State.mfe]
@[simp] theorem accumulateRun_seq (p : Powers) (d : Nat) : (accumulateRun p d s).seq = s.seq := by
  unfold accumulateRun; try dsimp only
  (repeat' split) <;> simp [apply_ite State.seq]
@[simp] theorem accumulateRun_alc (p : Powers) (d : Nat) : (accumulateRun p d s).alc = s.alc := by
  unfold accumulateRun; try dsimp only
  (repeat' split) <;> simp [apply_ite State.alc]
@[simp] theorem accumulateRun_ism (p : Powers) (d : Nat) : (accumulateRun p d s).ism = s.ism := by
  unfold accumulateRun; try dsimp only
  (repeat' split) <;> simp [apply_ite State.ism]
@[simp] theorem accumulateRun_bil (p : Powers) (d : Nat) : (accumulateRun p d s).bil = s.bil := by
  unfold accumulateRun; try dsimp only
  (repeat' split) <;> simp [apply_ite State.bil]
@[simp] theorem accumulateRun_evt (p : Powers) (d : Nat) : (accumulateRun p d s).evt = s.evt := by
  unfold accumulateRun; try dsimp only
  (repeat' split) <;> simp [apply_ite State.evt]
@[simp] theorem accumulateRun_lnk (p : Powers) (d : Nat) : (accumulateRun p d s).lnk = s.lnk := by
  unfold accumulateRun; try dsimp only
  (repeat' split) <;> simp [apply_ite State.lnk]
@[simp] theorem accumulateRun_pending (p : Powers) (d : Nat) : (accumulateRun p d s).pending = s.pending := by
  unfold accumulateRun; try dsimp only
  (repeat' split) <;> simp [apply_ite State.pending]
@[simp] theorem accumulateRun_nowMs (p : Powers) (d : Nat) : (accumulateRun p d s).nowMs = s.nowMs := by simp [State.nowMs]
@[simp] theorem accumulate_time (k : SampleKind) (p : Powers) (d : Nat) : (accumulate k p d s).time = s.time := by
  unfold accumulate; try dsimp only
  (repeat' split) <;> simp [apply_ite State.time]
@[simp] theorem accumulate_inputs (k : SampleKind) (p : Powers) (d : Nat) : (accumulate k p d s).inputs = s.inputs := by
  unfold accumulate; try dsimp only
  (repeat' split) <;> simp [apply_ite State.inputs]
@[simp] theorem accumulate_mfe (k : SampleKind) (p : Powers) (d : Nat) : (accumulate k p d s).mfe = s.mfe := by
  unfold accumulate; try dsimp only
  (repeat' split) <;> simp [apply_ite State.mfe]
@[simp] theorem accumulate_seq (k : SampleKind) (p : Powers) (d : Nat) : (accumulate k p d s).seq = s.seq := by
  unfold accumulate; try dsimp only
  (repeat' split) <;> simp [apply_ite State.seq]
@[simp] theorem accumulate_alc (k : SampleKind) (p : Powers) (d : Nat) : (accumulate k p d s).alc = s.alc := by
  unfold accumulate; try dsimp only
  (repeat' split) <;> simp [apply_ite State.alc]
@[simp] theorem accumulate_ism (k : SampleKind) (p : Powers) (d : Nat) : (accumulate k p d s).ism = s.ism := by
  unfold accumulate; try dsimp only
  (repeat' split) <;> simp [apply_ite State.ism]
@[simp] theorem accumulate_evt (k : SampleKind) (p : Powers) (d : Nat) : (accumulate k p d s).evt = s.evt := by
  unfold accumulate; try dsimp only
  (repeat' split) <;> simp [apply_ite State.evt]
@[simp] theorem accumulate_lnk (k : SampleKind) (p : Powers) (d : Nat) : (accumulate k p d s).lnk = s.lnk := by
  unfold accumulate; try dsimp only
  (repeat' split) <;> simp [apply_ite State.lnk]
@[simp] theorem accumulate_pending (k : SampleKind) (p : Powers) (d : Nat) : (accumulate k p d s).pending = s.pending := by
  unfold accumulate; try dsimp only
  (repeat' split) <;> simp [apply_ite State.pending]
@[simp] theorem accumulate_nowMs (k : SampleKind) (p : Powers) (d : Nat) : (accumulate k p d s).nowMs = s.nowMs := by simp [State.nowMs]
@[simp] theorem closeInterval_time (k : SampleKind) : (closeInterval k s).time = s.time := by
  unfold closeInterval; try dsimp only
  (repeat' split) <;> simp [apply_ite State.time]
@[simp] theorem closeInterval_inputs (k : SampleKind) : (closeInterval k s).inputs = s.inputs := by
  unfold closeInterval; try dsimp only
  (repeat' split) <;> simp [apply_ite State.inputs]
@[simp] theorem closeInterval_mfe (k : SampleKind) : (closeInterval k s).mfe = s.mfe := by
  unfold closeInterval; try dsimp only
  (repeat' split) <;> simp [apply_ite State.mfe]
@[simp] theorem closeInterval_seq (k : SampleKind) : (closeInterval k s).seq = s.seq := by
  unfold closeInterval; try dsimp only
  (repeat' split) <;> simp [apply_ite State.seq]
@[simp] theorem closeInterval_alc (k : SampleKind) : (closeInterval k s).alc = s.alc := by
  unfold closeInterval; try dsimp only
  (repeat' split) <;> simp [apply_ite State.alc]
@[simp] theorem closeInterval_ism (k : SampleKind) : (closeInterval k s).ism = s.ism := by
  unfold closeInterval; try dsimp only
  (repeat' split) <;> simp [apply_ite State.ism]
@[simp] theorem closeInterval_evt (k : SampleKind) : (closeInterval k s).evt = s.evt := by
  unfold closeInterval; try dsimp only
  (repeat' split) <;> simp [apply_ite State.evt]
@[simp] theorem closeInterval_lnk (k : SampleKind) : (closeInterval k s).lnk = s.lnk := by
  unfold closeInterval; try dsimp only
  (repeat' split) <;> simp [apply_ite State.lnk]
@[simp] theorem closeInterval_pending (k : SampleKind) : (closeInterval k s).pending = s.pending := by
  unfold closeInterval; try dsimp only
  (repeat' split) <;> simp [apply_ite State.pending]
@[simp] theorem closeInterval_nowMs (k : SampleKind) : (closeInterval k s).nowMs = s.nowMs := by simp [State.nowMs]
@[simp] theorem setTiming_time (t : Timing) : (setTiming t s).time = s.time := rfl
@[simp] theorem setTiming_inputs (t : Timing) : (setTiming t s).inputs = s.inputs := rfl
@[simp] theorem setTiming_mfe (t : Timing) : (setTiming t s).mfe = s.mfe := rfl
@[simp] theorem setTiming_seq (t : Timing) : (setTiming t s).seq = s.seq := rfl
@[simp] theorem setTiming_alc (t : Timing) : (setTiming t s).alc = s.alc := rfl
@[simp] theorem setTiming_htr (t : Timing) : (setTiming t s).htr = s.htr := rfl
@[simp] theorem setTiming_ism (t : Timing) : (setTiming t s).ism = s.ism := rfl
@[simp] theorem setTiming_bil (t : Timing) : (setTiming t s).bil = s.bil := rfl
@[simp] theorem setTiming_evt (t : Timing) : (setTiming t s).evt = s.evt := rfl
@[simp] theorem setTiming_lnk (t : Timing) : (setTiming t s).lnk = s.lnk := rfl
@[simp] theorem setTiming_pending (t : Timing) : (setTiming t s).pending = s.pending := rfl
@[simp] theorem setTiming_nowMs (t : Timing) : (setTiming t s).nowMs = s.nowMs := rfl
@[simp] theorem openGate_time : (openGate s).time = s.time := by
  unfold openGate; try dsimp only
  (repeat' split) <;> simp [apply_ite State.time]
@[simp] theorem openGate_inputs : (openGate s).inputs = s.inputs := by
  unfold openGate; try dsimp only
  (repeat' split) <;> simp [apply_ite State.inputs]
@[simp] theorem openGate_mfe : (openGate s).mfe = s.mfe := by
  unfold openGate; try dsimp only
  (repeat' split) <;> simp [apply_ite State.mfe]
@[simp] theorem openGate_seq : (openGate s).seq = s.seq := by
  unfold openGate; try dsimp only
  (repeat' split) <;> simp [apply_ite State.seq]
@[simp] theorem openGate_alc : (openGate s).alc = s.alc := by
  unfold openGate; try dsimp only
  (repeat' split) <;> simp [apply_ite State.alc]
@[simp] theorem openGate_ism : (openGate s).ism = s.ism := by
  unfold openGate; try dsimp only
  (repeat' split) <;> simp [apply_ite State.ism]
@[simp] theorem openGate_evt : (openGate s).evt = s.evt := by
  unfold openGate; try dsimp only
  (repeat' split) <;> simp [apply_ite State.evt]
@[simp] theorem openGate_lnk : (openGate s).lnk = s.lnk := by
  unfold openGate; try dsimp only
  (repeat' split) <;> simp [apply_ite State.lnk]
@[simp] theorem openGate_pending : (openGate s).pending = s.pending := by
  unfold openGate; try dsimp only
  (repeat' split) <;> simp [apply_ite State.pending]
@[simp] theorem openGate_nowMs : (openGate s).nowMs = s.nowMs := by simp [State.nowMs]
@[simp] theorem closeGate_time : (closeGate s).time = s.time := by
  unfold closeGate; try dsimp only
  (repeat' split) <;> simp [apply_ite State.time]
@[simp] theorem closeGate_inputs : (closeGate s).inputs = s.inputs := by
  unfold closeGate; try dsimp only
  (repeat' split) <;> simp [apply_ite State.inputs]
@[simp] theorem closeGate_mfe : (closeGate s).mfe = s.mfe := by
  unfold closeGate; try dsimp only
  (repeat' split) <;> simp [apply_ite State.mfe]
@[simp] theorem closeGate_seq : (closeGate s).seq = s.seq := by
  unfold closeGate; try dsimp only
  (repeat' split) <;> simp [apply_ite State.seq]
@[simp] theorem closeGate_alc : (closeGate s).alc = s.alc := by
  unfold closeGate; try dsimp only
  (repeat' split) <;> simp [apply_ite State.alc]
@[simp] theorem closeGate_ism : (closeGate s).ism = s.ism := by
  unfold closeGate; try dsimp only
  (repeat' split) <;> simp [apply_ite State.ism]
@[simp] theorem closeGate_evt : (closeGate s).evt = s.evt := by
  unfold closeGate; try dsimp only
  (repeat' split) <;> simp [apply_ite State.evt]
@[simp] theorem closeGate_lnk : (closeGate s).lnk = s.lnk := by
  unfold closeGate; try dsimp only
  (repeat' split) <;> simp [apply_ite State.lnk]
@[simp] theorem closeGate_pending : (closeGate s).pending = s.pending := by
  unfold closeGate; try dsimp only
  (repeat' split) <;> simp [apply_ite State.pending]
@[simp] theorem closeGate_nowMs : (closeGate s).nowMs = s.nowMs := by simp [State.nowMs]
@[simp] theorem cutForRun_time : (cutForRun s).time = s.time := by
  unfold cutForRun; try dsimp only
  (repeat' split) <;> simp [apply_ite State.time]
@[simp] theorem cutForRun_inputs : (cutForRun s).inputs = s.inputs := by
  unfold cutForRun; try dsimp only
  (repeat' split) <;> simp [apply_ite State.inputs]
@[simp] theorem cutForRun_mfe : (cutForRun s).mfe = s.mfe := by
  unfold cutForRun; try dsimp only
  (repeat' split) <;> simp [apply_ite State.mfe]
@[simp] theorem cutForRun_seq : (cutForRun s).seq = s.seq := by
  unfold cutForRun; try dsimp only
  (repeat' split) <;> simp [apply_ite State.seq]
@[simp] theorem cutForRun_alc : (cutForRun s).alc = s.alc := by
  unfold cutForRun; try dsimp only
  (repeat' split) <;> simp [apply_ite State.alc]
@[simp] theorem cutForRun_ism : (cutForRun s).ism = s.ism := by
  unfold cutForRun; try dsimp only
  (repeat' split) <;> simp [apply_ite State.ism]
@[simp] theorem cutForRun_evt : (cutForRun s).evt = s.evt := by
  unfold cutForRun; try dsimp only
  (repeat' split) <;> simp [apply_ite State.evt]
@[simp] theorem cutForRun_lnk : (cutForRun s).lnk = s.lnk := by
  unfold cutForRun; try dsimp only
  (repeat' split) <;> simp [apply_ite State.lnk]
@[simp] theorem cutForRun_pending : (cutForRun s).pending = s.pending := by
  unfold cutForRun; try dsimp only
  (repeat' split) <;> simp [apply_ite State.pending]
@[simp] theorem cutForRun_nowMs : (cutForRun s).nowMs = s.nowMs := by simp [State.nowMs]
@[simp] theorem emptyOfferRecord_time : (emptyOfferRecord s).time = s.time := rfl
@[simp] theorem emptyOfferRecord_inputs : (emptyOfferRecord s).inputs = s.inputs := rfl
@[simp] theorem emptyOfferRecord_mfe : (emptyOfferRecord s).mfe = s.mfe := rfl
@[simp] theorem emptyOfferRecord_seq : (emptyOfferRecord s).seq = s.seq := rfl
@[simp] theorem emptyOfferRecord_htr : (emptyOfferRecord s).htr = s.htr := rfl
@[simp] theorem emptyOfferRecord_ism : (emptyOfferRecord s).ism = s.ism := rfl
@[simp] theorem emptyOfferRecord_mtr : (emptyOfferRecord s).mtr = s.mtr := rfl
@[simp] theorem emptyOfferRecord_bil : (emptyOfferRecord s).bil = s.bil := rfl
@[simp] theorem emptyOfferRecord_evt : (emptyOfferRecord s).evt = s.evt := rfl
@[simp] theorem emptyOfferRecord_lnk : (emptyOfferRecord s).lnk = s.lnk := rfl
@[simp] theorem emptyOfferRecord_pending : (emptyOfferRecord s).pending = s.pending := rfl
@[simp] theorem emptyOfferRecord_nowMs : (emptyOfferRecord s).nowMs = s.nowMs := rfl
@[simp] theorem followGrant_time : (followGrant s).time = s.time := by
  unfold followGrant; try dsimp only
  (repeat' split) <;> simp [apply_ite State.time]
@[simp] theorem followGrant_inputs : (followGrant s).inputs = s.inputs := by
  unfold followGrant; try dsimp only
  (repeat' split) <;> simp [apply_ite State.inputs]
@[simp] theorem followGrant_mfe : (followGrant s).mfe = s.mfe := by
  unfold followGrant; try dsimp only
  (repeat' split) <;> simp [apply_ite State.mfe]
@[simp] theorem followGrant_seq : (followGrant s).seq = s.seq := by
  unfold followGrant; try dsimp only
  (repeat' split) <;> simp [apply_ite State.seq]
@[simp] theorem followGrant_alc : (followGrant s).alc = s.alc := by
  unfold followGrant; try dsimp only
  (repeat' split) <;> simp [apply_ite State.alc]
@[simp] theorem followGrant_ism : (followGrant s).ism = s.ism := by
  unfold followGrant; try dsimp only
  (repeat' split) <;> simp [apply_ite State.ism]
@[simp] theorem followGrant_mtr : (followGrant s).mtr = s.mtr := by
  unfold followGrant; try dsimp only
  (repeat' split) <;> simp [apply_ite State.mtr]
@[simp] theorem followGrant_bil : (followGrant s).bil = s.bil := by
  unfold followGrant; try dsimp only
  (repeat' split) <;> simp [apply_ite State.bil]
@[simp] theorem followGrant_evt : (followGrant s).evt = s.evt := by
  unfold followGrant; try dsimp only
  (repeat' split) <;> simp [apply_ite State.evt]
@[simp] theorem followGrant_lnk : (followGrant s).lnk = s.lnk := by
  unfold followGrant; try dsimp only
  (repeat' split) <;> simp [apply_ite State.lnk]
@[simp] theorem followGrant_pending : (followGrant s).pending = s.pending := by
  unfold followGrant; try dsimp only
  (repeat' split) <;> simp [apply_ite State.pending]
@[simp] theorem followGrant_nowMs : (followGrant s).nowMs = s.nowMs := by simp [State.nowMs]
@[simp] theorem allocate_time : (allocate s).time = s.time := by
  unfold allocate; try dsimp only
  (repeat' split) <;> simp [apply_ite State.time]
@[simp] theorem allocate_inputs : (allocate s).inputs = s.inputs := by
  unfold allocate; try dsimp only
  (repeat' split) <;> simp [apply_ite State.inputs]
@[simp] theorem allocate_mfe : (allocate s).mfe = s.mfe := by
  unfold allocate; try dsimp only
  (repeat' split) <;> simp [apply_ite State.mfe]
@[simp] theorem allocate_seq : (allocate s).seq = s.seq := by
  unfold allocate; try dsimp only
  (repeat' split) <;> simp [apply_ite State.seq]
@[simp] theorem allocate_ism : (allocate s).ism = s.ism := by
  unfold allocate; try dsimp only
  (repeat' split) <;> simp [apply_ite State.ism]
@[simp] theorem allocate_mtr : (allocate s).mtr = s.mtr := by
  unfold allocate; try dsimp only
  (repeat' split) <;> simp [apply_ite State.mtr]
@[simp] theorem allocate_bil : (allocate s).bil = s.bil := by
  unfold allocate; try dsimp only
  (repeat' split) <;> simp [apply_ite State.bil]
@[simp] theorem allocate_evt : (allocate s).evt = s.evt := by
  unfold allocate; try dsimp only
  (repeat' split) <;> simp [apply_ite State.evt]
@[simp] theorem allocate_lnk : (allocate s).lnk = s.lnk := by
  unfold allocate; try dsimp only
  (repeat' split) <;> simp [apply_ite State.lnk]
@[simp] theorem allocate_pending : (allocate s).pending = s.pending := by
  unfold allocate; try dsimp only
  (repeat' split) <;> simp [apply_ite State.pending]
@[simp] theorem allocate_nowMs : (allocate s).nowMs = s.nowMs := by simp [State.nowMs]
@[simp] theorem setPackLevel_time (l : Option Level) : (setPackLevel l s).time = s.time := rfl
@[simp] theorem setPackLevel_inputs (l : Option Level) : (setPackLevel l s).inputs = s.inputs := rfl
@[simp] theorem setPackLevel_mfe (l : Option Level) : (setPackLevel l s).mfe = s.mfe := rfl
@[simp] theorem setPackLevel_seq (l : Option Level) : (setPackLevel l s).seq = s.seq := rfl
@[simp] theorem setPackLevel_alc (l : Option Level) : (setPackLevel l s).alc = s.alc := rfl
@[simp] theorem setPackLevel_ism (l : Option Level) : (setPackLevel l s).ism = s.ism := rfl
@[simp] theorem setPackLevel_mtr (l : Option Level) : (setPackLevel l s).mtr = s.mtr := rfl
@[simp] theorem setPackLevel_bil (l : Option Level) : (setPackLevel l s).bil = s.bil := rfl
@[simp] theorem setPackLevel_evt (l : Option Level) : (setPackLevel l s).evt = s.evt := rfl
@[simp] theorem setPackLevel_lnk (l : Option Level) : (setPackLevel l s).lnk = s.lnk := rfl
@[simp] theorem setPackLevel_pending (l : Option Level) : (setPackLevel l s).pending = s.pending := rfl
@[simp] theorem setPackLevel_nowMs (l : Option Level) : (setPackLevel l s).nowMs = s.nowMs := rfl
@[simp] theorem followPack_time : (followPack s).time = s.time := by
  unfold followPack; try dsimp only
  (repeat' split) <;> simp [apply_ite State.time]
@[simp] theorem followPack_inputs : (followPack s).inputs = s.inputs := by
  unfold followPack; try dsimp only
  (repeat' split) <;> simp [apply_ite State.inputs]
@[simp] theorem followPack_mfe : (followPack s).mfe = s.mfe := by
  unfold followPack; try dsimp only
  (repeat' split) <;> simp [apply_ite State.mfe]
@[simp] theorem followPack_seq : (followPack s).seq = s.seq := by
  unfold followPack; try dsimp only
  (repeat' split) <;> simp [apply_ite State.seq]
@[simp] theorem followPack_alc : (followPack s).alc = s.alc := by
  unfold followPack; try dsimp only
  (repeat' split) <;> simp [apply_ite State.alc]
@[simp] theorem followPack_ism : (followPack s).ism = s.ism := by
  unfold followPack; try dsimp only
  (repeat' split) <;> simp [apply_ite State.ism]
@[simp] theorem followPack_mtr : (followPack s).mtr = s.mtr := by
  unfold followPack; try dsimp only
  (repeat' split) <;> simp [apply_ite State.mtr]
@[simp] theorem followPack_bil : (followPack s).bil = s.bil := by
  unfold followPack; try dsimp only
  (repeat' split) <;> simp [apply_ite State.bil]
@[simp] theorem followPack_evt : (followPack s).evt = s.evt := by
  unfold followPack; try dsimp only
  (repeat' split) <;> simp [apply_ite State.evt]
@[simp] theorem followPack_lnk : (followPack s).lnk = s.lnk := by
  unfold followPack; try dsimp only
  (repeat' split) <;> simp [apply_ite State.lnk]
@[simp] theorem followPack_pending : (followPack s).pending = s.pending := by
  unfold followPack; try dsimp only
  (repeat' split) <;> simp [apply_ite State.pending]
@[simp] theorem followPack_nowMs : (followPack s).nowMs = s.nowMs := by simp [State.nowMs]
@[simp] theorem openQuiet_time : (openQuiet s).time = s.time := rfl
@[simp] theorem openQuiet_inputs : (openQuiet s).inputs = s.inputs := rfl
@[simp] theorem openQuiet_mfe : (openQuiet s).mfe = s.mfe := rfl
@[simp] theorem openQuiet_seq : (openQuiet s).seq = s.seq := rfl
@[simp] theorem openQuiet_htr : (openQuiet s).htr = s.htr := rfl
@[simp] theorem openQuiet_ism : (openQuiet s).ism = s.ism := rfl
@[simp] theorem openQuiet_mtr : (openQuiet s).mtr = s.mtr := rfl
@[simp] theorem openQuiet_bil : (openQuiet s).bil = s.bil := rfl
@[simp] theorem openQuiet_evt : (openQuiet s).evt = s.evt := rfl
@[simp] theorem openQuiet_lnk : (openQuiet s).lnk = s.lnk := rfl
@[simp] theorem openQuiet_pending : (openQuiet s).pending = s.pending := rfl
@[simp] theorem openQuiet_nowMs : (openQuiet s).nowMs = s.nowMs := rfl
@[simp] theorem closeQuiet_time : (closeQuiet s).time = s.time := by
  unfold closeQuiet; try dsimp only
  (repeat' split) <;> simp [apply_ite State.time]
@[simp] theorem closeQuiet_inputs : (closeQuiet s).inputs = s.inputs := by
  unfold closeQuiet; try dsimp only
  (repeat' split) <;> simp [apply_ite State.inputs]
@[simp] theorem closeQuiet_mfe : (closeQuiet s).mfe = s.mfe := by
  unfold closeQuiet; try dsimp only
  (repeat' split) <;> simp [apply_ite State.mfe]
@[simp] theorem closeQuiet_seq : (closeQuiet s).seq = s.seq := by
  unfold closeQuiet; try dsimp only
  (repeat' split) <;> simp [apply_ite State.seq]
@[simp] theorem closeQuiet_ism : (closeQuiet s).ism = s.ism := by
  unfold closeQuiet; try dsimp only
  (repeat' split) <;> simp [apply_ite State.ism]
@[simp] theorem closeQuiet_mtr : (closeQuiet s).mtr = s.mtr := by
  unfold closeQuiet; try dsimp only
  (repeat' split) <;> simp [apply_ite State.mtr]
@[simp] theorem closeQuiet_bil : (closeQuiet s).bil = s.bil := by
  unfold closeQuiet; try dsimp only
  (repeat' split) <;> simp [apply_ite State.bil]
@[simp] theorem closeQuiet_evt : (closeQuiet s).evt = s.evt := by
  unfold closeQuiet; try dsimp only
  (repeat' split) <;> simp [apply_ite State.evt]
@[simp] theorem closeQuiet_lnk : (closeQuiet s).lnk = s.lnk := by
  unfold closeQuiet; try dsimp only
  (repeat' split) <;> simp [apply_ite State.lnk]
@[simp] theorem closeQuiet_pending : (closeQuiet s).pending = s.pending := by
  unfold closeQuiet; try dsimp only
  (repeat' split) <;> simp [apply_ite State.pending]
@[simp] theorem closeQuiet_nowMs : (closeQuiet s).nowMs = s.nowMs := by simp [State.nowMs]
@[simp] theorem updateRecord_time (c : Section) (f : SectionRecord → SectionRecord) : (updateRecord c f s).time = s.time := rfl
@[simp] theorem updateRecord_inputs (c : Section) (f : SectionRecord → SectionRecord) : (updateRecord c f s).inputs = s.inputs := rfl
@[simp] theorem updateRecord_mfe (c : Section) (f : SectionRecord → SectionRecord) : (updateRecord c f s).mfe = s.mfe := rfl
@[simp] theorem updateRecord_seq (c : Section) (f : SectionRecord → SectionRecord) : (updateRecord c f s).seq = s.seq := rfl
@[simp] theorem updateRecord_alc (c : Section) (f : SectionRecord → SectionRecord) : (updateRecord c f s).alc = s.alc := rfl
@[simp] theorem updateRecord_htr (c : Section) (f : SectionRecord → SectionRecord) : (updateRecord c f s).htr = s.htr := rfl
@[simp] theorem updateRecord_mtr (c : Section) (f : SectionRecord → SectionRecord) : (updateRecord c f s).mtr = s.mtr := rfl
@[simp] theorem updateRecord_bil (c : Section) (f : SectionRecord → SectionRecord) : (updateRecord c f s).bil = s.bil := rfl
@[simp] theorem updateRecord_evt (c : Section) (f : SectionRecord → SectionRecord) : (updateRecord c f s).evt = s.evt := rfl
@[simp] theorem updateRecord_lnk (c : Section) (f : SectionRecord → SectionRecord) : (updateRecord c f s).lnk = s.lnk := rfl
@[simp] theorem updateRecord_pending (c : Section) (f : SectionRecord → SectionRecord) : (updateRecord c f s).pending = s.pending := rfl
@[simp] theorem updateRecord_nowMs (c : Section) (f : SectionRecord → SectionRecord) : (updateRecord c f s).nowMs = s.nowMs := rfl
@[simp] theorem discard_time : (discard s).time = s.time := by
  unfold discard; try dsimp only
  (repeat' split) <;> simp [apply_ite State.time]
@[simp] theorem discard_inputs : (discard s).inputs = s.inputs := by
  unfold discard; try dsimp only
  (repeat' split) <;> simp [apply_ite State.inputs]
@[simp] theorem discard_mfe : (discard s).mfe = s.mfe := by
  unfold discard; try dsimp only
  (repeat' split) <;> simp [apply_ite State.mfe]
@[simp] theorem discard_seq : (discard s).seq = s.seq := by
  unfold discard; try dsimp only
  (repeat' split) <;> simp [apply_ite State.seq]
@[simp] theorem discard_mtr : (discard s).mtr = s.mtr := by
  unfold discard; try dsimp only
  (repeat' split) <;> simp [apply_ite State.mtr]
@[simp] theorem discard_bil : (discard s).bil = s.bil := by
  unfold discard; try dsimp only
  (repeat' split) <;> simp [apply_ite State.bil]
@[simp] theorem discard_evt : (discard s).evt = s.evt := by
  unfold discard; try dsimp only
  (repeat' split) <;> simp [apply_ite State.evt]
@[simp] theorem discard_lnk : (discard s).lnk = s.lnk := by
  unfold discard; try dsimp only
  (repeat' split) <;> simp [apply_ite State.lnk]
@[simp] theorem discard_pending : (discard s).pending = s.pending := by
  unfold discard; try dsimp only
  (repeat' split) <;> simp [apply_ite State.pending]
@[simp] theorem discard_nowMs : (discard s).nowMs = s.nowMs := by simp [State.nowMs]
@[simp] theorem settleTopology_time (k : Slot) : (settleTopology k s).time = s.time := by
  unfold settleTopology; try dsimp only
  (repeat' split) <;> simp [apply_ite State.time]
@[simp] theorem settleTopology_inputs (k : Slot) : (settleTopology k s).inputs = s.inputs := by
  unfold settleTopology; try dsimp only
  (repeat' split) <;> simp [apply_ite State.inputs]
@[simp] theorem settleTopology_mfe (k : Slot) : (settleTopology k s).mfe = s.mfe := by
  unfold settleTopology; try dsimp only
  (repeat' split) <;> simp [apply_ite State.mfe]
@[simp] theorem settleTopology_seq (k : Slot) : (settleTopology k s).seq = s.seq := by
  unfold settleTopology; try dsimp only
  (repeat' split) <;> simp [apply_ite State.seq]
@[simp] theorem settleTopology_alc (k : Slot) : (settleTopology k s).alc = s.alc := by
  unfold settleTopology; try dsimp only
  (repeat' split) <;> simp [apply_ite State.alc]
@[simp] theorem settleTopology_htr (k : Slot) : (settleTopology k s).htr = s.htr := by
  unfold settleTopology; try dsimp only
  (repeat' split) <;> simp [apply_ite State.htr]
@[simp] theorem settleTopology_mtr (k : Slot) : (settleTopology k s).mtr = s.mtr := by
  unfold settleTopology; try dsimp only
  (repeat' split) <;> simp [apply_ite State.mtr]
@[simp] theorem settleTopology_bil (k : Slot) : (settleTopology k s).bil = s.bil := by
  unfold settleTopology; try dsimp only
  (repeat' split) <;> simp [apply_ite State.bil]
@[simp] theorem settleTopology_evt (k : Slot) : (settleTopology k s).evt = s.evt := by
  unfold settleTopology; try dsimp only
  (repeat' split) <;> simp [apply_ite State.evt]
@[simp] theorem settleTopology_lnk (k : Slot) : (settleTopology k s).lnk = s.lnk := by
  unfold settleTopology; try dsimp only
  (repeat' split) <;> simp [apply_ite State.lnk]
@[simp] theorem settleTopology_pending (k : Slot) : (settleTopology k s).pending = s.pending := by
  unfold settleTopology; try dsimp only
  (repeat' split) <;> simp [apply_ite State.pending]
@[simp] theorem settleTopology_nowMs (k : Slot) : (settleTopology k s).nowMs = s.nowMs := by simp [State.nowMs]
@[simp] theorem topologyChange_time (h : Section → Bool) : (topologyChange h s).time = s.time := by
  unfold topologyChange; try dsimp only
  (repeat' split) <;> simp [apply_ite State.time]
@[simp] theorem topologyChange_inputs (h : Section → Bool) : (topologyChange h s).inputs = s.inputs := by
  unfold topologyChange; try dsimp only
  (repeat' split) <;> simp [apply_ite State.inputs]
@[simp] theorem topologyChange_mfe (h : Section → Bool) : (topologyChange h s).mfe = s.mfe := by
  unfold topologyChange; try dsimp only
  (repeat' split) <;> simp [apply_ite State.mfe]
@[simp] theorem topologyChange_seq (h : Section → Bool) : (topologyChange h s).seq = s.seq := by
  unfold topologyChange; try dsimp only
  (repeat' split) <;> simp [apply_ite State.seq]
@[simp] theorem topologyChange_mtr (h : Section → Bool) : (topologyChange h s).mtr = s.mtr := by
  unfold topologyChange; try dsimp only
  (repeat' split) <;> simp [apply_ite State.mtr]
@[simp] theorem topologyChange_bil (h : Section → Bool) : (topologyChange h s).bil = s.bil := by
  unfold topologyChange; try dsimp only
  (repeat' split) <;> simp [apply_ite State.bil]
@[simp] theorem topologyChange_evt (h : Section → Bool) : (topologyChange h s).evt = s.evt := by
  unfold topologyChange; try dsimp only
  (repeat' split) <;> simp [apply_ite State.evt]
@[simp] theorem topologyChange_lnk (h : Section → Bool) : (topologyChange h s).lnk = s.lnk := by
  unfold topologyChange; try dsimp only
  (repeat' split) <;> simp [apply_ite State.lnk]
@[simp] theorem topologyChange_pending (h : Section → Bool) : (topologyChange h s).pending = s.pending := by
  unfold topologyChange; try dsimp only
  (repeat' split) <;> simp [apply_ite State.pending]
@[simp] theorem topologyChange_nowMs (h : Section → Bool) : (topologyChange h s).nowMs = s.nowMs := by simp [State.nowMs]
@[simp] theorem dccTopology_time : (dccTopology s).time = s.time := by
  unfold dccTopology; try dsimp only
  (repeat' split) <;> simp [apply_ite State.time]
@[simp] theorem dccTopology_inputs : (dccTopology s).inputs = s.inputs := by
  unfold dccTopology; try dsimp only
  (repeat' split) <;> simp [apply_ite State.inputs]
@[simp] theorem dccTopology_mfe : (dccTopology s).mfe = s.mfe := by
  unfold dccTopology; try dsimp only
  (repeat' split) <;> simp [apply_ite State.mfe]
@[simp] theorem dccTopology_seq : (dccTopology s).seq = s.seq := by
  unfold dccTopology; try dsimp only
  (repeat' split) <;> simp [apply_ite State.seq]
@[simp] theorem dccTopology_mtr : (dccTopology s).mtr = s.mtr := by
  unfold dccTopology; try dsimp only
  (repeat' split) <;> simp [apply_ite State.mtr]
@[simp] theorem dccTopology_bil : (dccTopology s).bil = s.bil := by
  unfold dccTopology; try dsimp only
  (repeat' split) <;> simp [apply_ite State.bil]
@[simp] theorem dccTopology_evt : (dccTopology s).evt = s.evt := by
  unfold dccTopology; try dsimp only
  (repeat' split) <;> simp [apply_ite State.evt]
@[simp] theorem dccTopology_lnk : (dccTopology s).lnk = s.lnk := by
  unfold dccTopology; try dsimp only
  (repeat' split) <;> simp [apply_ite State.lnk]
@[simp] theorem dccTopology_pending : (dccTopology s).pending = s.pending := by
  unfold dccTopology; try dsimp only
  (repeat' split) <;> simp [apply_ite State.pending]
@[simp] theorem dccTopology_nowMs : (dccTopology s).nowMs = s.nowMs := by simp [State.nowMs]
@[simp] theorem switchTopology_time : (switchTopology s).time = s.time := by
  unfold switchTopology; try dsimp only
  (repeat' split) <;> simp [apply_ite State.time]
@[simp] theorem switchTopology_inputs : (switchTopology s).inputs = s.inputs := by
  unfold switchTopology; try dsimp only
  (repeat' split) <;> simp [apply_ite State.inputs]
@[simp] theorem switchTopology_mfe : (switchTopology s).mfe = s.mfe := by
  unfold switchTopology; try dsimp only
  (repeat' split) <;> simp [apply_ite State.mfe]
@[simp] theorem switchTopology_seq : (switchTopology s).seq = s.seq := by
  unfold switchTopology; try dsimp only
  (repeat' split) <;> simp [apply_ite State.seq]
@[simp] theorem switchTopology_mtr : (switchTopology s).mtr = s.mtr := by
  unfold switchTopology; try dsimp only
  (repeat' split) <;> simp [apply_ite State.mtr]
@[simp] theorem switchTopology_bil : (switchTopology s).bil = s.bil := by
  unfold switchTopology; try dsimp only
  (repeat' split) <;> simp [apply_ite State.bil]
@[simp] theorem switchTopology_evt : (switchTopology s).evt = s.evt := by
  unfold switchTopology; try dsimp only
  (repeat' split) <;> simp [apply_ite State.evt]
@[simp] theorem switchTopology_lnk : (switchTopology s).lnk = s.lnk := by
  unfold switchTopology; try dsimp only
  (repeat' split) <;> simp [apply_ite State.lnk]
@[simp] theorem switchTopology_pending : (switchTopology s).pending = s.pending := by
  unfold switchTopology; try dsimp only
  (repeat' split) <;> simp [apply_ite State.pending]
@[simp] theorem switchTopology_nowMs : (switchTopology s).nowMs = s.nowMs := by simp [State.nowMs]
@[simp] theorem liveTopology_time : (liveTopology s).time = s.time := by
  unfold liveTopology; try dsimp only
  (repeat' split) <;> simp [apply_ite State.time]
@[simp] theorem liveTopology_inputs : (liveTopology s).inputs = s.inputs := by
  unfold liveTopology; try dsimp only
  (repeat' split) <;> simp [apply_ite State.inputs]
@[simp] theorem liveTopology_mfe : (liveTopology s).mfe = s.mfe := by
  unfold liveTopology; try dsimp only
  (repeat' split) <;> simp [apply_ite State.mfe]
@[simp] theorem liveTopology_seq : (liveTopology s).seq = s.seq := by
  unfold liveTopology; try dsimp only
  (repeat' split) <;> simp [apply_ite State.seq]
@[simp] theorem liveTopology_mtr : (liveTopology s).mtr = s.mtr := by
  unfold liveTopology; try dsimp only
  (repeat' split) <;> simp [apply_ite State.mtr]
@[simp] theorem liveTopology_bil : (liveTopology s).bil = s.bil := by
  unfold liveTopology; try dsimp only
  (repeat' split) <;> simp [apply_ite State.bil]
@[simp] theorem liveTopology_evt : (liveTopology s).evt = s.evt := by
  unfold liveTopology; try dsimp only
  (repeat' split) <;> simp [apply_ite State.evt]
@[simp] theorem liveTopology_lnk : (liveTopology s).lnk = s.lnk := by
  unfold liveTopology; try dsimp only
  (repeat' split) <;> simp [apply_ite State.lnk]
@[simp] theorem liveTopology_pending : (liveTopology s).pending = s.pending := by
  unfold liveTopology; try dsimp only
  (repeat' split) <;> simp [apply_ite State.pending]
@[simp] theorem liveTopology_nowMs : (liveTopology s).nowMs = s.nowMs := by simp [State.nowMs]
@[simp] theorem inletTopology_time : (inletTopology s).time = s.time := by
  unfold inletTopology; try dsimp only
  (repeat' split) <;> simp [apply_ite State.time]
@[simp] theorem inletTopology_inputs : (inletTopology s).inputs = s.inputs := by
  unfold inletTopology; try dsimp only
  (repeat' split) <;> simp [apply_ite State.inputs]
@[simp] theorem inletTopology_mfe : (inletTopology s).mfe = s.mfe := by
  unfold inletTopology; try dsimp only
  (repeat' split) <;> simp [apply_ite State.mfe]
@[simp] theorem inletTopology_seq : (inletTopology s).seq = s.seq := by
  unfold inletTopology; try dsimp only
  (repeat' split) <;> simp [apply_ite State.seq]
@[simp] theorem inletTopology_mtr : (inletTopology s).mtr = s.mtr := by
  unfold inletTopology; try dsimp only
  (repeat' split) <;> simp [apply_ite State.mtr]
@[simp] theorem inletTopology_bil : (inletTopology s).bil = s.bil := by
  unfold inletTopology; try dsimp only
  (repeat' split) <;> simp [apply_ite State.bil]
@[simp] theorem inletTopology_evt : (inletTopology s).evt = s.evt := by
  unfold inletTopology; try dsimp only
  (repeat' split) <;> simp [apply_ite State.evt]
@[simp] theorem inletTopology_lnk : (inletTopology s).lnk = s.lnk := by
  unfold inletTopology; try dsimp only
  (repeat' split) <;> simp [apply_ite State.lnk]
@[simp] theorem inletTopology_pending : (inletTopology s).pending = s.pending := by
  unfold inletTopology; try dsimp only
  (repeat' split) <;> simp [apply_ite State.pending]
@[simp] theorem inletTopology_nowMs : (inletTopology s).nowMs = s.nowMs := by simp [State.nowMs]
@[simp] theorem withdrawSeq_time : (withdrawSeq s).time = s.time := by
  unfold withdrawSeq; try dsimp only
  (repeat' split) <;> simp [apply_ite State.time]
@[simp] theorem withdrawSeq_inputs : (withdrawSeq s).inputs = s.inputs := by
  unfold withdrawSeq; try dsimp only
  (repeat' split) <;> simp [apply_ite State.inputs]
@[simp] theorem withdrawSeq_mfe : (withdrawSeq s).mfe = s.mfe := by
  unfold withdrawSeq; try dsimp only
  (repeat' split) <;> simp [apply_ite State.mfe]
@[simp] theorem withdrawSeq_seq : (withdrawSeq s).seq = s.seq := by
  unfold withdrawSeq; try dsimp only
  (repeat' split) <;> simp [apply_ite State.seq]
@[simp] theorem withdrawSeq_mtr : (withdrawSeq s).mtr = s.mtr := by
  unfold withdrawSeq; try dsimp only
  (repeat' split) <;> simp [apply_ite State.mtr]
@[simp] theorem withdrawSeq_bil : (withdrawSeq s).bil = s.bil := by
  unfold withdrawSeq; try dsimp only
  (repeat' split) <;> simp [apply_ite State.bil]
@[simp] theorem withdrawSeq_evt : (withdrawSeq s).evt = s.evt := by
  unfold withdrawSeq; try dsimp only
  (repeat' split) <;> simp [apply_ite State.evt]
@[simp] theorem withdrawSeq_lnk : (withdrawSeq s).lnk = s.lnk := by
  unfold withdrawSeq; try dsimp only
  (repeat' split) <;> simp [apply_ite State.lnk]
@[simp] theorem withdrawSeq_pending : (withdrawSeq s).pending = s.pending := by
  unfold withdrawSeq; try dsimp only
  (repeat' split) <;> simp [apply_ite State.pending]
@[simp] theorem withdrawSeq_nowMs : (withdrawSeq s).nowMs = s.nowMs := by simp [State.nowMs]
@[simp] theorem withdrawHeater_time : (withdrawHeater s).time = s.time := by
  unfold withdrawHeater; try dsimp only
  (repeat' split) <;> simp [apply_ite State.time]
@[simp] theorem withdrawHeater_inputs : (withdrawHeater s).inputs = s.inputs := by
  unfold withdrawHeater; try dsimp only
  (repeat' split) <;> simp [apply_ite State.inputs]
@[simp] theorem withdrawHeater_mfe : (withdrawHeater s).mfe = s.mfe := by
  unfold withdrawHeater; try dsimp only
  (repeat' split) <;> simp [apply_ite State.mfe]
@[simp] theorem withdrawHeater_seq : (withdrawHeater s).seq = s.seq := by
  unfold withdrawHeater; try dsimp only
  (repeat' split) <;> simp [apply_ite State.seq]
@[simp] theorem withdrawHeater_mtr : (withdrawHeater s).mtr = s.mtr := by
  unfold withdrawHeater; try dsimp only
  (repeat' split) <;> simp [apply_ite State.mtr]
@[simp] theorem withdrawHeater_bil : (withdrawHeater s).bil = s.bil := by
  unfold withdrawHeater; try dsimp only
  (repeat' split) <;> simp [apply_ite State.bil]
@[simp] theorem withdrawHeater_evt : (withdrawHeater s).evt = s.evt := by
  unfold withdrawHeater; try dsimp only
  (repeat' split) <;> simp [apply_ite State.evt]
@[simp] theorem withdrawHeater_lnk : (withdrawHeater s).lnk = s.lnk := by
  unfold withdrawHeater; try dsimp only
  (repeat' split) <;> simp [apply_ite State.lnk]
@[simp] theorem withdrawHeater_pending : (withdrawHeater s).pending = s.pending := by
  unfold withdrawHeater; try dsimp only
  (repeat' split) <;> simp [apply_ite State.pending]
@[simp] theorem withdrawHeater_nowMs : (withdrawHeater s).nowMs = s.nowMs := by simp [State.nowMs]
@[simp] theorem startMeasurement_time (k : Slot) (c : Section) : (startMeasurement k c s).time = s.time := by
  unfold startMeasurement; try dsimp only
  (repeat' split) <;> simp [apply_ite State.time]
@[simp] theorem startMeasurement_inputs (k : Slot) (c : Section) : (startMeasurement k c s).inputs = s.inputs := by
  unfold startMeasurement; try dsimp only
  (repeat' split) <;> simp [apply_ite State.inputs]
@[simp] theorem startMeasurement_mfe (k : Slot) (c : Section) : (startMeasurement k c s).mfe = s.mfe := by
  unfold startMeasurement; try dsimp only
  (repeat' split) <;> simp [apply_ite State.mfe]
@[simp] theorem startMeasurement_seq (k : Slot) (c : Section) : (startMeasurement k c s).seq = s.seq := by
  unfold startMeasurement; try dsimp only
  (repeat' split) <;> simp [apply_ite State.seq]
@[simp] theorem startMeasurement_htr (k : Slot) (c : Section) : (startMeasurement k c s).htr = s.htr := by
  unfold startMeasurement; try dsimp only
  (repeat' split) <;> simp [apply_ite State.htr]
@[simp] theorem startMeasurement_mtr (k : Slot) (c : Section) : (startMeasurement k c s).mtr = s.mtr := by
  unfold startMeasurement; try dsimp only
  (repeat' split) <;> simp [apply_ite State.mtr]
@[simp] theorem startMeasurement_bil (k : Slot) (c : Section) : (startMeasurement k c s).bil = s.bil := by
  unfold startMeasurement; try dsimp only
  (repeat' split) <;> simp [apply_ite State.bil]
@[simp] theorem startMeasurement_evt (k : Slot) (c : Section) : (startMeasurement k c s).evt = s.evt := by
  unfold startMeasurement; try dsimp only
  (repeat' split) <;> simp [apply_ite State.evt]
@[simp] theorem startMeasurement_lnk (k : Slot) (c : Section) : (startMeasurement k c s).lnk = s.lnk := by
  unfold startMeasurement; try dsimp only
  (repeat' split) <;> simp [apply_ite State.lnk]
@[simp] theorem startMeasurement_pending (k : Slot) (c : Section) : (startMeasurement k c s).pending = s.pending := by
  unfold startMeasurement; try dsimp only
  (repeat' split) <;> simp [apply_ite State.pending]
@[simp] theorem startMeasurement_nowMs (k : Slot) (c : Section) : (startMeasurement k c s).nowMs = s.nowMs := by simp [State.nowMs]
@[simp] theorem withScan_time (f : Scan → Scan) : (withScan f s).time = s.time := rfl
@[simp] theorem withScan_inputs (f : Scan → Scan) : (withScan f s).inputs = s.inputs := rfl
@[simp] theorem withScan_mfe (f : Scan → Scan) : (withScan f s).mfe = s.mfe := rfl
@[simp] theorem withScan_seq (f : Scan → Scan) : (withScan f s).seq = s.seq := rfl
@[simp] theorem withScan_alc (f : Scan → Scan) : (withScan f s).alc = s.alc := rfl
@[simp] theorem withScan_htr (f : Scan → Scan) : (withScan f s).htr = s.htr := rfl
@[simp] theorem withScan_mtr (f : Scan → Scan) : (withScan f s).mtr = s.mtr := rfl
@[simp] theorem withScan_bil (f : Scan → Scan) : (withScan f s).bil = s.bil := rfl
@[simp] theorem withScan_evt (f : Scan → Scan) : (withScan f s).evt = s.evt := rfl
@[simp] theorem withScan_lnk (f : Scan → Scan) : (withScan f s).lnk = s.lnk := rfl
@[simp] theorem withScan_pending (f : Scan → Scan) : (withScan f s).pending = s.pending := rfl
@[simp] theorem withScan_nowMs (f : Scan → Scan) : (withScan f s).nowMs = s.nowMs := rfl
@[simp] theorem skipStep_time (c : Section) : (skipStep c s).time = s.time := by
  unfold skipStep; try dsimp only
  (repeat' split) <;> simp [apply_ite State.time]
@[simp] theorem skipStep_inputs (c : Section) : (skipStep c s).inputs = s.inputs := by
  unfold skipStep; try dsimp only
  (repeat' split) <;> simp [apply_ite State.inputs]
@[simp] theorem skipStep_mfe (c : Section) : (skipStep c s).mfe = s.mfe := by
  unfold skipStep; try dsimp only
  (repeat' split) <;> simp [apply_ite State.mfe]
@[simp] theorem skipStep_seq (c : Section) : (skipStep c s).seq = s.seq := by
  unfold skipStep; try dsimp only
  (repeat' split) <;> simp [apply_ite State.seq]
@[simp] theorem skipStep_alc (c : Section) : (skipStep c s).alc = s.alc := by
  unfold skipStep; try dsimp only
  (repeat' split) <;> simp [apply_ite State.alc]
@[simp] theorem skipStep_htr (c : Section) : (skipStep c s).htr = s.htr := by
  unfold skipStep; try dsimp only
  (repeat' split) <;> simp [apply_ite State.htr]
@[simp] theorem skipStep_mtr (c : Section) : (skipStep c s).mtr = s.mtr := by
  unfold skipStep; try dsimp only
  (repeat' split) <;> simp [apply_ite State.mtr]
@[simp] theorem skipStep_bil (c : Section) : (skipStep c s).bil = s.bil := by
  unfold skipStep; try dsimp only
  (repeat' split) <;> simp [apply_ite State.bil]
@[simp] theorem skipStep_evt (c : Section) : (skipStep c s).evt = s.evt := by
  unfold skipStep; try dsimp only
  (repeat' split) <;> simp [apply_ite State.evt]
@[simp] theorem skipStep_lnk (c : Section) : (skipStep c s).lnk = s.lnk := by
  unfold skipStep; try dsimp only
  (repeat' split) <;> simp [apply_ite State.lnk]
@[simp] theorem skipStep_pending (c : Section) : (skipStep c s).pending = s.pending := by
  unfold skipStep; try dsimp only
  (repeat' split) <;> simp [apply_ite State.pending]
@[simp] theorem skipStep_nowMs (c : Section) : (skipStep c s).nowMs = s.nowMs := by simp [State.nowMs]
@[simp] theorem serveScan_time (n : Nat) : (serveScan n s).time = s.time := by
  induction n generalizing s with
  | zero => rfl
  | succ n ih => unfold serveScan; (repeat' split) <;> simp [ih]
@[simp] theorem serveScan_inputs (n : Nat) : (serveScan n s).inputs = s.inputs := by
  induction n generalizing s with
  | zero => rfl
  | succ n ih => unfold serveScan; (repeat' split) <;> simp [ih]
@[simp] theorem serveScan_mfe (n : Nat) : (serveScan n s).mfe = s.mfe := by
  induction n generalizing s with
  | zero => rfl
  | succ n ih => unfold serveScan; (repeat' split) <;> simp [ih]
@[simp] theorem serveScan_seq (n : Nat) : (serveScan n s).seq = s.seq := by
  induction n generalizing s with
  | zero => rfl
  | succ n ih => unfold serveScan; (repeat' split) <;> simp [ih]
@[simp] theorem serveScan_htr (n : Nat) : (serveScan n s).htr = s.htr := by
  induction n generalizing s with
  | zero => rfl
  | succ n ih => unfold serveScan; (repeat' split) <;> simp [ih]
@[simp] theorem serveScan_mtr (n : Nat) : (serveScan n s).mtr = s.mtr := by
  induction n generalizing s with
  | zero => rfl
  | succ n ih => unfold serveScan; (repeat' split) <;> simp [ih]
@[simp] theorem serveScan_bil (n : Nat) : (serveScan n s).bil = s.bil := by
  induction n generalizing s with
  | zero => rfl
  | succ n ih => unfold serveScan; (repeat' split) <;> simp [ih]
@[simp] theorem serveScan_evt (n : Nat) : (serveScan n s).evt = s.evt := by
  induction n generalizing s with
  | zero => rfl
  | succ n ih => unfold serveScan; (repeat' split) <;> simp [ih]
@[simp] theorem serveScan_lnk (n : Nat) : (serveScan n s).lnk = s.lnk := by
  induction n generalizing s with
  | zero => rfl
  | succ n ih => unfold serveScan; (repeat' split) <;> simp [ih]
@[simp] theorem serveScan_pending (n : Nat) : (serveScan n s).pending = s.pending := by
  induction n generalizing s with
  | zero => rfl
  | succ n ih => unfold serveScan; (repeat' split) <;> simp [ih]
@[simp] theorem serveScan_nowMs (n : Nat) : (serveScan n s).nowMs = s.nowMs := by simp [State.nowMs]
@[simp] theorem wakeScan_time (o : State) : (wakeScan o s).time = s.time := by
  unfold wakeScan; try dsimp only
  (repeat' split) <;> simp [apply_ite State.time]
@[simp] theorem wakeScan_inputs (o : State) : (wakeScan o s).inputs = s.inputs := by
  unfold wakeScan; try dsimp only
  (repeat' split) <;> simp [apply_ite State.inputs]
@[simp] theorem wakeScan_mfe (o : State) : (wakeScan o s).mfe = s.mfe := by
  unfold wakeScan; try dsimp only
  (repeat' split) <;> simp [apply_ite State.mfe]
@[simp] theorem wakeScan_seq (o : State) : (wakeScan o s).seq = s.seq := by
  unfold wakeScan; try dsimp only
  (repeat' split) <;> simp [apply_ite State.seq]
@[simp] theorem wakeScan_alc (o : State) : (wakeScan o s).alc = s.alc := by
  unfold wakeScan; try dsimp only
  (repeat' split) <;> simp [apply_ite State.alc]
@[simp] theorem wakeScan_htr (o : State) : (wakeScan o s).htr = s.htr := by
  unfold wakeScan; try dsimp only
  (repeat' split) <;> simp [apply_ite State.htr]
@[simp] theorem wakeScan_mtr (o : State) : (wakeScan o s).mtr = s.mtr := by
  unfold wakeScan; try dsimp only
  (repeat' split) <;> simp [apply_ite State.mtr]
@[simp] theorem wakeScan_bil (o : State) : (wakeScan o s).bil = s.bil := by
  unfold wakeScan; try dsimp only
  (repeat' split) <;> simp [apply_ite State.bil]
@[simp] theorem wakeScan_evt (o : State) : (wakeScan o s).evt = s.evt := by
  unfold wakeScan; try dsimp only
  (repeat' split) <;> simp [apply_ite State.evt]
@[simp] theorem wakeScan_lnk (o : State) : (wakeScan o s).lnk = s.lnk := by
  unfold wakeScan; try dsimp only
  (repeat' split) <;> simp [apply_ite State.lnk]
@[simp] theorem wakeScan_pending (o : State) : (wakeScan o s).pending = s.pending := by
  unfold wakeScan; try dsimp only
  (repeat' split) <;> simp [apply_ite State.pending]
@[simp] theorem wakeScan_nowMs (o : State) : (wakeScan o s).nowMs = s.nowMs := by simp [State.nowMs]
@[simp] theorem arbiter_time (o : State) : (arbiter o s).time = s.time := by
  unfold arbiter; try dsimp only
  (repeat' split) <;> simp [apply_ite State.time]
@[simp] theorem arbiter_inputs (o : State) : (arbiter o s).inputs = s.inputs := by
  unfold arbiter; try dsimp only
  (repeat' split) <;> simp [apply_ite State.inputs]
@[simp] theorem arbiter_mfe (o : State) : (arbiter o s).mfe = s.mfe := by
  unfold arbiter; try dsimp only
  (repeat' split) <;> simp [apply_ite State.mfe]
@[simp] theorem arbiter_seq (o : State) : (arbiter o s).seq = s.seq := by
  unfold arbiter; try dsimp only
  (repeat' split) <;> simp [apply_ite State.seq]
@[simp] theorem arbiter_htr (o : State) : (arbiter o s).htr = s.htr := by
  unfold arbiter; try dsimp only
  (repeat' split) <;> simp [apply_ite State.htr]
@[simp] theorem arbiter_mtr (o : State) : (arbiter o s).mtr = s.mtr := by
  unfold arbiter; try dsimp only
  (repeat' split) <;> simp [apply_ite State.mtr]
@[simp] theorem arbiter_bil (o : State) : (arbiter o s).bil = s.bil := by
  unfold arbiter; try dsimp only
  (repeat' split) <;> simp [apply_ite State.bil]
@[simp] theorem arbiter_evt (o : State) : (arbiter o s).evt = s.evt := by
  unfold arbiter; try dsimp only
  (repeat' split) <;> simp [apply_ite State.evt]
@[simp] theorem arbiter_lnk (o : State) : (arbiter o s).lnk = s.lnk := by
  unfold arbiter; try dsimp only
  (repeat' split) <;> simp [apply_ite State.lnk]
@[simp] theorem arbiter_pending (o : State) : (arbiter o s).pending = s.pending := by
  unfold arbiter; try dsimp only
  (repeat' split) <;> simp [apply_ite State.pending]
@[simp] theorem arbiter_nowMs (o : State) : (arbiter o s).nowMs = s.nowMs := by simp [State.nowMs]
@[simp] theorem finish_time (o : State) : (finish o s).time = s.time := by
  unfold finish; try dsimp only
  (repeat' split) <;> simp [apply_ite State.time]
@[simp] theorem finish_inputs (o : State) : (finish o s).inputs = s.inputs := by
  unfold finish; try dsimp only
  (repeat' split) <;> simp [apply_ite State.inputs]
@[simp] theorem finish_mfe (o : State) : (finish o s).mfe = s.mfe := by
  unfold finish; try dsimp only
  (repeat' split) <;> simp [apply_ite State.mfe]
@[simp] theorem finish_seq (o : State) : (finish o s).seq = s.seq := by
  unfold finish; try dsimp only
  (repeat' split) <;> simp [apply_ite State.seq]
@[simp] theorem finish_htr (o : State) : (finish o s).htr = s.htr := by
  unfold finish; try dsimp only
  (repeat' split) <;> simp [apply_ite State.htr]
@[simp] theorem finish_mtr (o : State) : (finish o s).mtr = s.mtr := by
  unfold finish; try dsimp only
  (repeat' split) <;> simp [apply_ite State.mtr]
@[simp] theorem finish_bil (o : State) : (finish o s).bil = s.bil := by
  unfold finish; try dsimp only
  (repeat' split) <;> simp [apply_ite State.bil]
@[simp] theorem finish_pending (o : State) : (finish o s).pending = s.pending := by
  unfold finish; try dsimp only
  (repeat' split) <;> simp [apply_ite State.pending]
@[simp] theorem finish_nowMs (o : State) : (finish o s).nowMs = s.nowMs := by simp [State.nowMs]
@[simp] theorem openSwitch_time : (openSwitch s).time = s.time := by
  unfold openSwitch; try dsimp only
  (repeat' split) <;> simp [apply_ite State.time]
@[simp] theorem openSwitch_inputs : (openSwitch s).inputs = s.inputs := by
  unfold openSwitch; try dsimp only
  (repeat' split) <;> simp [apply_ite State.inputs]
@[simp] theorem openSwitch_mfe : (openSwitch s).mfe = s.mfe := by
  unfold openSwitch; try dsimp only
  (repeat' split) <;> simp [apply_ite State.mfe]
@[simp] theorem openSwitch_seq : (openSwitch s).seq = s.seq := by
  unfold openSwitch; try dsimp only
  (repeat' split) <;> simp [apply_ite State.seq]
@[simp] theorem openSwitch_mtr : (openSwitch s).mtr = s.mtr := by
  unfold openSwitch; try dsimp only
  (repeat' split) <;> simp [apply_ite State.mtr]
@[simp] theorem openSwitch_bil : (openSwitch s).bil = s.bil := by
  unfold openSwitch; try dsimp only
  (repeat' split) <;> simp [apply_ite State.bil]
@[simp] theorem openSwitch_evt : (openSwitch s).evt = s.evt := by
  unfold openSwitch; try dsimp only
  (repeat' split) <;> simp [apply_ite State.evt]
@[simp] theorem openSwitch_lnk : (openSwitch s).lnk = s.lnk := by
  unfold openSwitch; try dsimp only
  (repeat' split) <;> simp [apply_ite State.lnk]
@[simp] theorem openSwitch_pending : (openSwitch s).pending = s.pending := by
  unfold openSwitch; try dsimp only
  (repeat' split) <;> simp [apply_ite State.pending]
@[simp] theorem openSwitch_nowMs : (openSwitch s).nowMs = s.nowMs := by simp [State.nowMs]
@[simp] theorem closeSwitch_time : (closeSwitch s).time = s.time := by
  unfold closeSwitch; try dsimp only
  (repeat' split) <;> simp [apply_ite State.time]
@[simp] theorem closeSwitch_inputs : (closeSwitch s).inputs = s.inputs := by
  unfold closeSwitch; try dsimp only
  (repeat' split) <;> simp [apply_ite State.inputs]
@[simp] theorem closeSwitch_mfe : (closeSwitch s).mfe = s.mfe := by
  unfold closeSwitch; try dsimp only
  (repeat' split) <;> simp [apply_ite State.mfe]
@[simp] theorem closeSwitch_seq : (closeSwitch s).seq = s.seq := by
  unfold closeSwitch; try dsimp only
  (repeat' split) <;> simp [apply_ite State.seq]
@[simp] theorem closeSwitch_mtr : (closeSwitch s).mtr = s.mtr := by
  unfold closeSwitch; try dsimp only
  (repeat' split) <;> simp [apply_ite State.mtr]
@[simp] theorem closeSwitch_bil : (closeSwitch s).bil = s.bil := by
  unfold closeSwitch; try dsimp only
  (repeat' split) <;> simp [apply_ite State.bil]
@[simp] theorem closeSwitch_evt : (closeSwitch s).evt = s.evt := by
  unfold closeSwitch; try dsimp only
  (repeat' split) <;> simp [apply_ite State.evt]
@[simp] theorem closeSwitch_lnk : (closeSwitch s).lnk = s.lnk := by
  unfold closeSwitch; try dsimp only
  (repeat' split) <;> simp [apply_ite State.lnk]
@[simp] theorem closeSwitch_pending : (closeSwitch s).pending = s.pending := by
  unfold closeSwitch; try dsimp only
  (repeat' split) <;> simp [apply_ite State.pending]
@[simp] theorem closeSwitch_nowMs : (closeSwitch s).nowMs = s.nowMs := by simp [State.nowMs]
@[simp] theorem startRun_time (l : Level) : (startRun l s).time = s.time := by
  unfold startRun; try dsimp only
  (repeat' split) <;> simp [apply_ite State.time]
@[simp] theorem startRun_inputs (l : Level) : (startRun l s).inputs = s.inputs := by
  unfold startRun; try dsimp only
  (repeat' split) <;> simp [apply_ite State.inputs]
@[simp] theorem startRun_mfe (l : Level) : (startRun l s).mfe = s.mfe := by
  unfold startRun; try dsimp only
  (repeat' split) <;> simp [apply_ite State.mfe]
@[simp] theorem startRun_seq (l : Level) : (startRun l s).seq = s.seq := by
  unfold startRun; try dsimp only
  (repeat' split) <;> simp [apply_ite State.seq]
@[simp] theorem startRun_alc (l : Level) : (startRun l s).alc = s.alc := by
  unfold startRun; try dsimp only
  (repeat' split) <;> simp [apply_ite State.alc]
@[simp] theorem startRun_ism (l : Level) : (startRun l s).ism = s.ism := by
  unfold startRun; try dsimp only
  (repeat' split) <;> simp [apply_ite State.ism]
@[simp] theorem startRun_evt (l : Level) : (startRun l s).evt = s.evt := by
  unfold startRun; try dsimp only
  (repeat' split) <;> simp [apply_ite State.evt]
@[simp] theorem startRun_lnk (l : Level) : (startRun l s).lnk = s.lnk := by
  unfold startRun; try dsimp only
  (repeat' split) <;> simp [apply_ite State.lnk]
@[simp] theorem startRun_pending (l : Level) : (startRun l s).pending = s.pending := by
  unfold startRun; try dsimp only
  (repeat' split) <;> simp [apply_ite State.pending]
@[simp] theorem startRun_nowMs (l : Level) : (startRun l s).nowMs = s.nowMs := by simp [State.nowMs]
@[simp] theorem endRun_time (c : HeatEnd) : (endRun c s).time = s.time := by
  unfold endRun; try dsimp only
  (repeat' split) <;> simp [apply_ite State.time]
@[simp] theorem endRun_inputs (c : HeatEnd) : (endRun c s).inputs = s.inputs := by
  unfold endRun; try dsimp only
  (repeat' split) <;> simp [apply_ite State.inputs]
@[simp] theorem endRun_mfe (c : HeatEnd) : (endRun c s).mfe = s.mfe := by
  unfold endRun; try dsimp only
  (repeat' split) <;> simp [apply_ite State.mfe]
@[simp] theorem endRun_alc (c : HeatEnd) : (endRun c s).alc = s.alc := by
  unfold endRun; try dsimp only
  (repeat' split) <;> simp [apply_ite State.alc]
@[simp] theorem endRun_ism (c : HeatEnd) : (endRun c s).ism = s.ism := by
  unfold endRun; try dsimp only
  (repeat' split) <;> simp [apply_ite State.ism]
@[simp] theorem endRun_evt (c : HeatEnd) : (endRun c s).evt = s.evt := by
  unfold endRun; try dsimp only
  (repeat' split) <;> simp [apply_ite State.evt]
@[simp] theorem endRun_lnk (c : HeatEnd) : (endRun c s).lnk = s.lnk := by
  unfold endRun; try dsimp only
  (repeat' split) <;> simp [apply_ite State.lnk]
@[simp] theorem endRun_pending (c : HeatEnd) : (endRun c s).pending = s.pending := by
  unfold endRun; try dsimp only
  (repeat' split) <;> simp [apply_ite State.pending]
@[simp] theorem endRun_nowMs (c : HeatEnd) : (endRun c s).nowMs = s.nowMs := by simp [State.nowMs]
@[simp] theorem enterHeat_time (st : HeatState) (src : HeatSource) (run : Option RunRecord) : (enterHeat st src run s).time = s.time := by
  unfold enterHeat; try dsimp only
  (repeat' split) <;> simp [apply_ite State.time]
@[simp] theorem enterHeat_inputs (st : HeatState) (src : HeatSource) (run : Option RunRecord) : (enterHeat st src run s).inputs = s.inputs := by
  unfold enterHeat; try dsimp only
  (repeat' split) <;> simp [apply_ite State.inputs]
@[simp] theorem enterHeat_mfe (st : HeatState) (src : HeatSource) (run : Option RunRecord) : (enterHeat st src run s).mfe = s.mfe := by
  unfold enterHeat; try dsimp only
  (repeat' split) <;> simp [apply_ite State.mfe]
@[simp] theorem enterHeat_seq (st : HeatState) (src : HeatSource) (run : Option RunRecord) : (enterHeat st src run s).seq = s.seq := by
  unfold enterHeat; try dsimp only
  (repeat' split) <;> simp [apply_ite State.seq]
@[simp] theorem enterHeat_ism (st : HeatState) (src : HeatSource) (run : Option RunRecord) : (enterHeat st src run s).ism = s.ism := by
  unfold enterHeat; try dsimp only
  (repeat' split) <;> simp [apply_ite State.ism]
@[simp] theorem enterHeat_mtr (st : HeatState) (src : HeatSource) (run : Option RunRecord) : (enterHeat st src run s).mtr = s.mtr := by
  unfold enterHeat; try dsimp only
  (repeat' split) <;> simp [apply_ite State.mtr]
@[simp] theorem enterHeat_bil (st : HeatState) (src : HeatSource) (run : Option RunRecord) : (enterHeat st src run s).bil = s.bil := by
  unfold enterHeat; try dsimp only
  (repeat' split) <;> simp [apply_ite State.bil]
@[simp] theorem enterHeat_lnk (st : HeatState) (src : HeatSource) (run : Option RunRecord) : (enterHeat st src run s).lnk = s.lnk := by
  unfold enterHeat; try dsimp only
  (repeat' split) <;> simp [apply_ite State.lnk]
@[simp] theorem enterHeat_pending (st : HeatState) (src : HeatSource) (run : Option RunRecord) : (enterHeat st src run s).pending = s.pending := by
  unfold enterHeat; try dsimp only
  (repeat' split) <;> simp [apply_ite State.pending]
@[simp] theorem enterHeat_nowMs (st : HeatState) (src : HeatSource) (run : Option RunRecord) : (enterHeat st src run s).nowMs = s.nowMs := by simp [State.nowMs]
@[simp] theorem giveUp_time : (giveUp s).time = s.time := by
  unfold giveUp; try dsimp only
  (repeat' split) <;> simp [apply_ite State.time]
@[simp] theorem giveUp_inputs : (giveUp s).inputs = s.inputs := by
  unfold giveUp; try dsimp only
  (repeat' split) <;> simp [apply_ite State.inputs]
@[simp] theorem giveUp_mfe : (giveUp s).mfe = s.mfe := by
  unfold giveUp; try dsimp only
  (repeat' split) <;> simp [apply_ite State.mfe]
@[simp] theorem giveUp_seq : (giveUp s).seq = s.seq := by
  unfold giveUp; try dsimp only
  (repeat' split) <;> simp [apply_ite State.seq]
@[simp] theorem giveUp_mtr : (giveUp s).mtr = s.mtr := by
  unfold giveUp; try dsimp only
  (repeat' split) <;> simp [apply_ite State.mtr]
@[simp] theorem giveUp_bil : (giveUp s).bil = s.bil := by
  unfold giveUp; try dsimp only
  (repeat' split) <;> simp [apply_ite State.bil]
@[simp] theorem giveUp_evt : (giveUp s).evt = s.evt := by
  unfold giveUp; try dsimp only
  (repeat' split) <;> simp [apply_ite State.evt]
@[simp] theorem giveUp_lnk : (giveUp s).lnk = s.lnk := by
  unfold giveUp; try dsimp only
  (repeat' split) <;> simp [apply_ite State.lnk]
@[simp] theorem giveUp_pending : (giveUp s).pending = s.pending := by
  unfold giveUp; try dsimp only
  (repeat' split) <;> simp [apply_ite State.pending]
@[simp] theorem giveUp_nowMs : (giveUp s).nowMs = s.nowMs := by simp [State.nowMs]
@[simp] theorem endRequest_time (c : HeatEnd) : (endRequest c s).time = s.time := by
  unfold endRequest; try dsimp only
  (repeat' split) <;> simp [apply_ite State.time]
@[simp] theorem endRequest_inputs (c : HeatEnd) : (endRequest c s).inputs = s.inputs := by
  unfold endRequest; try dsimp only
  (repeat' split) <;> simp [apply_ite State.inputs]
@[simp] theorem endRequest_mfe (c : HeatEnd) : (endRequest c s).mfe = s.mfe := by
  unfold endRequest; try dsimp only
  (repeat' split) <;> simp [apply_ite State.mfe]
@[simp] theorem endRequest_lnk (c : HeatEnd) : (endRequest c s).lnk = s.lnk := by
  unfold endRequest; try dsimp only
  (repeat' split) <;> simp [apply_ite State.lnk]
@[simp] theorem endRequest_pending (c : HeatEnd) : (endRequest c s).pending = s.pending := by
  unfold endRequest; try dsimp only
  (repeat' split) <;> simp [apply_ite State.pending]
@[simp] theorem endRequest_nowMs (c : HeatEnd) : (endRequest c s).nowMs = s.nowMs := by simp [State.nowMs]
@[simp] theorem toPending_time (c : HeatEnd) : (toPending c s).time = s.time := by
  unfold toPending; try dsimp only
  (repeat' split) <;> simp [apply_ite State.time]
@[simp] theorem toPending_inputs (c : HeatEnd) : (toPending c s).inputs = s.inputs := by
  unfold toPending; try dsimp only
  (repeat' split) <;> simp [apply_ite State.inputs]
@[simp] theorem toPending_mfe (c : HeatEnd) : (toPending c s).mfe = s.mfe := by
  unfold toPending; try dsimp only
  (repeat' split) <;> simp [apply_ite State.mfe]
@[simp] theorem toPending_lnk (c : HeatEnd) : (toPending c s).lnk = s.lnk := by
  unfold toPending; try dsimp only
  (repeat' split) <;> simp [apply_ite State.lnk]
@[simp] theorem toPending_pending (c : HeatEnd) : (toPending c s).pending = s.pending := by
  unfold toPending; try dsimp only
  (repeat' split) <;> simp [apply_ite State.pending]
@[simp] theorem toPending_nowMs (c : HeatEnd) : (toPending c s).nowMs = s.nowMs := by simp [State.nowMs]
@[simp] theorem supersede_time : (supersede s).time = s.time := by
  unfold supersede; try dsimp only
  (repeat' split) <;> simp [apply_ite State.time]
@[simp] theorem supersede_inputs : (supersede s).inputs = s.inputs := by
  unfold supersede; try dsimp only
  (repeat' split) <;> simp [apply_ite State.inputs]
@[simp] theorem supersede_mfe : (supersede s).mfe = s.mfe := by
  unfold supersede; try dsimp only
  (repeat' split) <;> simp [apply_ite State.mfe]
@[simp] theorem supersede_lnk : (supersede s).lnk = s.lnk := by
  unfold supersede; try dsimp only
  (repeat' split) <;> simp [apply_ite State.lnk]
@[simp] theorem supersede_pending : (supersede s).pending = s.pending := by
  unfold supersede; try dsimp only
  (repeat' split) <;> simp [apply_ite State.pending]
@[simp] theorem supersede_nowMs : (supersede s).nowMs = s.nowMs := by simp [State.nowMs]
@[simp] theorem enterOn_time : (enterOn s).time = s.time := by
  unfold enterOn; try dsimp only
  (repeat' split) <;> simp [apply_ite State.time]
@[simp] theorem enterOn_inputs : (enterOn s).inputs = s.inputs := by
  unfold enterOn; try dsimp only
  (repeat' split) <;> simp [apply_ite State.inputs]
@[simp] theorem enterOn_mfe : (enterOn s).mfe = s.mfe := by
  unfold enterOn; try dsimp only
  (repeat' split) <;> simp [apply_ite State.mfe]
@[simp] theorem enterOn_seq : (enterOn s).seq = s.seq := by
  unfold enterOn; try dsimp only
  (repeat' split) <;> simp [apply_ite State.seq]
@[simp] theorem enterOn_lnk : (enterOn s).lnk = s.lnk := by
  unfold enterOn; try dsimp only
  (repeat' split) <;> simp [apply_ite State.lnk]
@[simp] theorem enterOn_pending : (enterOn s).pending = s.pending := by
  unfold enterOn; try dsimp only
  (repeat' split) <;> simp [apply_ite State.pending]
@[simp] theorem enterOn_nowMs : (enterOn s).nowMs = s.nowMs := by simp [State.nowMs]
@[simp] theorem judgeCheck_time (n : Nat) : (judgeCheck n s).time = s.time := by
  unfold judgeCheck; try dsimp only
  (repeat' split) <;> simp [apply_ite State.time]
@[simp] theorem judgeCheck_inputs (n : Nat) : (judgeCheck n s).inputs = s.inputs := by
  unfold judgeCheck; try dsimp only
  (repeat' split) <;> simp [apply_ite State.inputs]
@[simp] theorem judgeCheck_mfe (n : Nat) : (judgeCheck n s).mfe = s.mfe := by
  unfold judgeCheck; try dsimp only
  (repeat' split) <;> simp [apply_ite State.mfe]
@[simp] theorem judgeCheck_lnk (n : Nat) : (judgeCheck n s).lnk = s.lnk := by
  unfold judgeCheck; try dsimp only
  (repeat' split) <;> simp [apply_ite State.lnk]
@[simp] theorem judgeCheck_pending (n : Nat) : (judgeCheck n s).pending = s.pending := by
  unfold judgeCheck; try dsimp only
  (repeat' split) <;> simp [apply_ite State.pending]
@[simp] theorem judgeCheck_nowMs (n : Nat) : (judgeCheck n s).nowMs = s.nowMs := by simp [State.nowMs]
@[simp] theorem enterCheck_time (src : HeatSource) : (enterCheck src s).time = s.time := by
  unfold enterCheck; try dsimp only
  (repeat' split) <;> simp [apply_ite State.time]
@[simp] theorem enterCheck_inputs (src : HeatSource) : (enterCheck src s).inputs = s.inputs := by
  unfold enterCheck; try dsimp only
  (repeat' split) <;> simp [apply_ite State.inputs]
@[simp] theorem enterCheck_mfe (src : HeatSource) : (enterCheck src s).mfe = s.mfe := by
  unfold enterCheck; try dsimp only
  (repeat' split) <;> simp [apply_ite State.mfe]
@[simp] theorem enterCheck_lnk (src : HeatSource) : (enterCheck src s).lnk = s.lnk := by
  unfold enterCheck; try dsimp only
  (repeat' split) <;> simp [apply_ite State.lnk]
@[simp] theorem enterCheck_pending (src : HeatSource) : (enterCheck src s).pending = s.pending := by
  unfold enterCheck; try dsimp only
  (repeat' split) <;> simp [apply_ite State.pending]
@[simp] theorem enterCheck_nowMs (src : HeatSource) : (enterCheck src s).nowMs = s.nowMs := by simp [State.nowMs]
@[simp] theorem place_time (src : HeatSource) (r : HeatRequest) : (place src r s).time = s.time := by
  unfold place; try dsimp only
  (repeat' split) <;> simp [apply_ite State.time]
@[simp] theorem place_inputs (src : HeatSource) (r : HeatRequest) : (place src r s).inputs = s.inputs := by
  unfold place; try dsimp only
  (repeat' split) <;> simp [apply_ite State.inputs]
@[simp] theorem place_mfe (src : HeatSource) (r : HeatRequest) : (place src r s).mfe = s.mfe := by
  unfold place; try dsimp only
  (repeat' split) <;> simp [apply_ite State.mfe]
@[simp] theorem place_lnk (src : HeatSource) (r : HeatRequest) : (place src r s).lnk = s.lnk := by
  unfold place; try dsimp only
  (repeat' split) <;> simp [apply_ite State.lnk]
@[simp] theorem place_pending (src : HeatSource) (r : HeatRequest) : (place src r s).pending = s.pending := by
  unfold place; try dsimp only
  (repeat' split) <;> simp [apply_ite State.pending]
@[simp] theorem place_nowMs (src : HeatSource) (r : HeatRequest) : (place src r s).nowMs = s.nowMs := by simp [State.nowMs]
@[simp] theorem htrEvaluate_time : (htrEvaluate s).time = s.time := by
  unfold htrEvaluate; try dsimp only
  (repeat' split) <;> simp [apply_ite State.time]
@[simp] theorem htrEvaluate_inputs : (htrEvaluate s).inputs = s.inputs := by
  unfold htrEvaluate; try dsimp only
  (repeat' split) <;> simp [apply_ite State.inputs]
@[simp] theorem htrEvaluate_mfe : (htrEvaluate s).mfe = s.mfe := by
  unfold htrEvaluate; try dsimp only
  (repeat' split) <;> simp [apply_ite State.mfe]
@[simp] theorem htrEvaluate_lnk : (htrEvaluate s).lnk = s.lnk := by
  unfold htrEvaluate; try dsimp only
  (repeat' split) <;> simp [apply_ite State.lnk]
@[simp] theorem htrEvaluate_pending : (htrEvaluate s).pending = s.pending := by
  unfold htrEvaluate; try dsimp only
  (repeat' split) <;> simp [apply_ite State.pending]
@[simp] theorem htrEvaluate_nowMs : (htrEvaluate s).nowMs = s.nowMs := by simp [State.nowMs]
@[simp] theorem updateCtx_time (f : SessionContext → SessionContext) : (updateCtx f s).time = s.time := rfl
@[simp] theorem updateCtx_inputs (f : SessionContext → SessionContext) : (updateCtx f s).inputs = s.inputs := rfl
@[simp] theorem updateCtx_mfe (f : SessionContext → SessionContext) : (updateCtx f s).mfe = s.mfe := rfl
@[simp] theorem updateCtx_alc (f : SessionContext → SessionContext) : (updateCtx f s).alc = s.alc := rfl
@[simp] theorem updateCtx_htr (f : SessionContext → SessionContext) : (updateCtx f s).htr = s.htr := rfl
@[simp] theorem updateCtx_ism (f : SessionContext → SessionContext) : (updateCtx f s).ism = s.ism := rfl
@[simp] theorem updateCtx_mtr (f : SessionContext → SessionContext) : (updateCtx f s).mtr = s.mtr := rfl
@[simp] theorem updateCtx_bil (f : SessionContext → SessionContext) : (updateCtx f s).bil = s.bil := rfl
@[simp] theorem updateCtx_evt (f : SessionContext → SessionContext) : (updateCtx f s).evt = s.evt := rfl
@[simp] theorem updateCtx_lnk (f : SessionContext → SessionContext) : (updateCtx f s).lnk = s.lnk := rfl
@[simp] theorem updateCtx_pending (f : SessionContext → SessionContext) : (updateCtx f s).pending = s.pending := rfl
@[simp] theorem updateCtx_nowMs (f : SessionContext → SessionContext) : (updateCtx f s).nowMs = s.nowMs := rfl
@[simp] theorem enterState_time (st : SeqState) (c : Option EndCause) : (enterState st c s).time = s.time := by
  unfold enterState; try dsimp only
  (repeat' split) <;> simp [apply_ite State.time]
@[simp] theorem enterState_inputs (st : SeqState) (c : Option EndCause) : (enterState st c s).inputs = s.inputs := by
  unfold enterState; try dsimp only
  (repeat' split) <;> simp [apply_ite State.inputs]
@[simp] theorem enterState_mfe (st : SeqState) (c : Option EndCause) : (enterState st c s).mfe = s.mfe := by
  unfold enterState; try dsimp only
  (repeat' split) <;> simp [apply_ite State.mfe]
@[simp] theorem enterState_alc (st : SeqState) (c : Option EndCause) : (enterState st c s).alc = s.alc := by
  unfold enterState; try dsimp only
  (repeat' split) <;> simp [apply_ite State.alc]
@[simp] theorem enterState_htr (st : SeqState) (c : Option EndCause) : (enterState st c s).htr = s.htr := by
  unfold enterState; try dsimp only
  (repeat' split) <;> simp [apply_ite State.htr]
@[simp] theorem enterState_ism (st : SeqState) (c : Option EndCause) : (enterState st c s).ism = s.ism := by
  unfold enterState; try dsimp only
  (repeat' split) <;> simp [apply_ite State.ism]
@[simp] theorem enterState_mtr (st : SeqState) (c : Option EndCause) : (enterState st c s).mtr = s.mtr := by
  unfold enterState; try dsimp only
  (repeat' split) <;> simp [apply_ite State.mtr]
@[simp] theorem enterState_bil (st : SeqState) (c : Option EndCause) : (enterState st c s).bil = s.bil := by
  unfold enterState; try dsimp only
  (repeat' split) <;> simp [apply_ite State.bil]
@[simp] theorem enterState_lnk (st : SeqState) (c : Option EndCause) : (enterState st c s).lnk = s.lnk := by
  unfold enterState; try dsimp only
  (repeat' split) <;> simp [apply_ite State.lnk]
@[simp] theorem enterState_pending (st : SeqState) (c : Option EndCause) : (enterState st c s).pending = s.pending := by
  unfold enterState; try dsimp only
  (repeat' split) <;> simp [apply_ite State.pending]
@[simp] theorem enterState_nowMs (st : SeqState) (c : Option EndCause) : (enterState st c s).nowMs = s.nowMs := by simp [State.nowMs]
@[simp] theorem setFaultLatch_time (c : FaultCase) (h : Bool) : (setFaultLatch c h s).time = s.time := by
  unfold setFaultLatch; try dsimp only
  (repeat' split) <;> simp [apply_ite State.time]
@[simp] theorem setFaultLatch_inputs (c : FaultCase) (h : Bool) : (setFaultLatch c h s).inputs = s.inputs := by
  unfold setFaultLatch; try dsimp only
  (repeat' split) <;> simp [apply_ite State.inputs]
@[simp] theorem setFaultLatch_mfe (c : FaultCase) (h : Bool) : (setFaultLatch c h s).mfe = s.mfe := by
  unfold setFaultLatch; try dsimp only
  (repeat' split) <;> simp [apply_ite State.mfe]
@[simp] theorem setFaultLatch_alc (c : FaultCase) (h : Bool) : (setFaultLatch c h s).alc = s.alc := by
  unfold setFaultLatch; try dsimp only
  (repeat' split) <;> simp [apply_ite State.alc]
@[simp] theorem setFaultLatch_htr (c : FaultCase) (h : Bool) : (setFaultLatch c h s).htr = s.htr := by
  unfold setFaultLatch; try dsimp only
  (repeat' split) <;> simp [apply_ite State.htr]
@[simp] theorem setFaultLatch_ism (c : FaultCase) (h : Bool) : (setFaultLatch c h s).ism = s.ism := by
  unfold setFaultLatch; try dsimp only
  (repeat' split) <;> simp [apply_ite State.ism]
@[simp] theorem setFaultLatch_mtr (c : FaultCase) (h : Bool) : (setFaultLatch c h s).mtr = s.mtr := by
  unfold setFaultLatch; try dsimp only
  (repeat' split) <;> simp [apply_ite State.mtr]
@[simp] theorem setFaultLatch_bil (c : FaultCase) (h : Bool) : (setFaultLatch c h s).bil = s.bil := by
  unfold setFaultLatch; try dsimp only
  (repeat' split) <;> simp [apply_ite State.bil]
@[simp] theorem setFaultLatch_lnk (c : FaultCase) (h : Bool) : (setFaultLatch c h s).lnk = s.lnk := by
  unfold setFaultLatch; try dsimp only
  (repeat' split) <;> simp [apply_ite State.lnk]
@[simp] theorem setFaultLatch_pending (c : FaultCase) (h : Bool) : (setFaultLatch c h s).pending = s.pending := by
  unfold setFaultLatch; try dsimp only
  (repeat' split) <;> simp [apply_ite State.pending]
@[simp] theorem setFaultLatch_nowMs (c : FaultCase) (h : Bool) : (setFaultLatch c h s).nowMs = s.nowMs := by simp [State.nowMs]
@[simp] theorem observe_time : (observe s).time = s.time := by
  unfold observe; try dsimp only
  (repeat' split) <;> simp [apply_ite State.time]
@[simp] theorem observe_inputs : (observe s).inputs = s.inputs := by
  unfold observe; try dsimp only
  (repeat' split) <;> simp [apply_ite State.inputs]
@[simp] theorem observe_mfe : (observe s).mfe = s.mfe := by
  unfold observe; try dsimp only
  (repeat' split) <;> simp [apply_ite State.mfe]
@[simp] theorem observe_alc : (observe s).alc = s.alc := by
  unfold observe; try dsimp only
  (repeat' split) <;> simp [apply_ite State.alc]
@[simp] theorem observe_htr : (observe s).htr = s.htr := by
  unfold observe; try dsimp only
  (repeat' split) <;> simp [apply_ite State.htr]
@[simp] theorem observe_ism : (observe s).ism = s.ism := by
  unfold observe; try dsimp only
  (repeat' split) <;> simp [apply_ite State.ism]
@[simp] theorem observe_mtr : (observe s).mtr = s.mtr := by
  unfold observe; try dsimp only
  (repeat' split) <;> simp [apply_ite State.mtr]
@[simp] theorem observe_bil : (observe s).bil = s.bil := by
  unfold observe; try dsimp only
  (repeat' split) <;> simp [apply_ite State.bil]
@[simp] theorem observe_evt : (observe s).evt = s.evt := by
  unfold observe; try dsimp only
  (repeat' split) <;> simp [apply_ite State.evt]
@[simp] theorem observe_lnk : (observe s).lnk = s.lnk := by
  unfold observe; try dsimp only
  (repeat' split) <;> simp [apply_ite State.lnk]
@[simp] theorem observe_pending : (observe s).pending = s.pending := by
  unfold observe; try dsimp only
  (repeat' split) <;> simp [apply_ite State.pending]
@[simp] theorem observe_nowMs : (observe s).nowMs = s.nowMs := by simp [State.nowMs]
@[simp] theorem afterState_time : (afterState s).time = s.time := by
  unfold afterState; try dsimp only
  (repeat' split) <;> simp [apply_ite State.time]
@[simp] theorem afterState_inputs : (afterState s).inputs = s.inputs := by
  unfold afterState; try dsimp only
  (repeat' split) <;> simp [apply_ite State.inputs]
@[simp] theorem afterState_mfe : (afterState s).mfe = s.mfe := by
  unfold afterState; try dsimp only
  (repeat' split) <;> simp [apply_ite State.mfe]
@[simp] theorem afterState_lnk : (afterState s).lnk = s.lnk := by
  unfold afterState; try dsimp only
  (repeat' split) <;> simp [apply_ite State.lnk]
@[simp] theorem afterState_pending : (afterState s).pending = s.pending := by
  unfold afterState; try dsimp only
  (repeat' split) <;> simp [apply_ite State.pending]
@[simp] theorem afterState_nowMs : (afterState s).nowMs = s.nowMs := by simp [State.nowMs]
@[simp] theorem cancelStart_time : (cancelStart s).time = s.time := by
  unfold cancelStart; try dsimp only
  (repeat' split) <;> simp [apply_ite State.time]
@[simp] theorem cancelStart_inputs : (cancelStart s).inputs = s.inputs := by
  unfold cancelStart; try dsimp only
  (repeat' split) <;> simp [apply_ite State.inputs]
@[simp] theorem cancelStart_mfe : (cancelStart s).mfe = s.mfe := by
  unfold cancelStart; try dsimp only
  (repeat' split) <;> simp [apply_ite State.mfe]
@[simp] theorem cancelStart_lnk : (cancelStart s).lnk = s.lnk := by
  unfold cancelStart; try dsimp only
  (repeat' split) <;> simp [apply_ite State.lnk]
@[simp] theorem cancelStart_pending : (cancelStart s).pending = s.pending := by
  unfold cancelStart; try dsimp only
  (repeat' split) <;> simp [apply_ite State.pending]
@[simp] theorem cancelStart_nowMs : (cancelStart s).nowMs = s.nowMs := by simp [State.nowMs]
@[simp] theorem finishRelease_time : (finishRelease s).time = s.time := by
  unfold finishRelease; try dsimp only
  (repeat' split) <;> simp [apply_ite State.time]
@[simp] theorem finishRelease_inputs : (finishRelease s).inputs = s.inputs := by
  unfold finishRelease; try dsimp only
  (repeat' split) <;> simp [apply_ite State.inputs]
@[simp] theorem finishRelease_mfe : (finishRelease s).mfe = s.mfe := by
  unfold finishRelease; try dsimp only
  (repeat' split) <;> simp [apply_ite State.mfe]
@[simp] theorem finishRelease_lnk : (finishRelease s).lnk = s.lnk := by
  unfold finishRelease; try dsimp only
  (repeat' split) <;> simp [apply_ite State.lnk]
@[simp] theorem finishRelease_pending : (finishRelease s).pending = s.pending := by
  unfold finishRelease; try dsimp only
  (repeat' split) <;> simp [apply_ite State.pending]
@[simp] theorem finishRelease_nowMs : (finishRelease s).nowMs = s.nowMs := by simp [State.nowMs]
@[simp] theorem unlock_time : (unlock s).time = s.time := by
  unfold unlock; try dsimp only
  (repeat' split) <;> simp [apply_ite State.time]
@[simp] theorem unlock_inputs : (unlock s).inputs = s.inputs := by
  unfold unlock; try dsimp only
  (repeat' split) <;> simp [apply_ite State.inputs]
@[simp] theorem unlock_mfe : (unlock s).mfe = s.mfe := by
  unfold unlock; try dsimp only
  (repeat' split) <;> simp [apply_ite State.mfe]
@[simp] theorem unlock_lnk : (unlock s).lnk = s.lnk := by
  unfold unlock; try dsimp only
  (repeat' split) <;> simp [apply_ite State.lnk]
@[simp] theorem unlock_pending : (unlock s).pending = s.pending := by
  unfold unlock; try dsimp only
  (repeat' split) <;> simp [apply_ite State.pending]
@[simp] theorem unlock_nowMs : (unlock s).nowMs = s.nowMs := by simp [State.nowMs]
@[simp] theorem openPower_time : (openPower s).time = s.time := by
  unfold openPower; try dsimp only
  (repeat' split) <;> simp [apply_ite State.time]
@[simp] theorem openPower_inputs : (openPower s).inputs = s.inputs := by
  unfold openPower; try dsimp only
  (repeat' split) <;> simp [apply_ite State.inputs]
@[simp] theorem openPower_mfe : (openPower s).mfe = s.mfe := by
  unfold openPower; try dsimp only
  (repeat' split) <;> simp [apply_ite State.mfe]
@[simp] theorem openPower_lnk : (openPower s).lnk = s.lnk := by
  unfold openPower; try dsimp only
  (repeat' split) <;> simp [apply_ite State.lnk]
@[simp] theorem openPower_pending : (openPower s).pending = s.pending := by
  unfold openPower; try dsimp only
  (repeat' split) <;> simp [apply_ite State.pending]
@[simp] theorem openPower_nowMs : (openPower s).nowMs = s.nowMs := by simp [State.nowMs]
@[simp] theorem enterRelease_time (c : EndCause) : (enterRelease c s).time = s.time := by
  unfold enterRelease; try dsimp only
  (repeat' split) <;> simp [apply_ite State.time]
@[simp] theorem enterRelease_inputs (c : EndCause) : (enterRelease c s).inputs = s.inputs := by
  unfold enterRelease; try dsimp only
  (repeat' split) <;> simp [apply_ite State.inputs]
@[simp] theorem enterRelease_mfe (c : EndCause) : (enterRelease c s).mfe = s.mfe := by
  unfold enterRelease; try dsimp only
  (repeat' split) <;> simp [apply_ite State.mfe]
@[simp] theorem enterRelease_lnk (c : EndCause) : (enterRelease c s).lnk = s.lnk := by
  unfold enterRelease; try dsimp only
  (repeat' split) <;> simp [apply_ite State.lnk]
@[simp] theorem enterRelease_pending (c : EndCause) : (enterRelease c s).pending = s.pending := by
  unfold enterRelease; try dsimp only
  (repeat' split) <;> simp [apply_ite State.pending]
@[simp] theorem enterRelease_nowMs (c : EndCause) : (enterRelease c s).nowMs = s.nowMs := by simp [State.nowMs]
@[simp] theorem endOpenPhase_time (c : EndCause) : (endOpenPhase c s).time = s.time := by
  unfold endOpenPhase; try dsimp only
  (repeat' split) <;> simp [apply_ite State.time]
@[simp] theorem endOpenPhase_inputs (c : EndCause) : (endOpenPhase c s).inputs = s.inputs := by
  unfold endOpenPhase; try dsimp only
  (repeat' split) <;> simp [apply_ite State.inputs]
@[simp] theorem endOpenPhase_mfe (c : EndCause) : (endOpenPhase c s).mfe = s.mfe := by
  unfold endOpenPhase; try dsimp only
  (repeat' split) <;> simp [apply_ite State.mfe]
@[simp] theorem endOpenPhase_lnk (c : EndCause) : (endOpenPhase c s).lnk = s.lnk := by
  unfold endOpenPhase; try dsimp only
  (repeat' split) <;> simp [apply_ite State.lnk]
@[simp] theorem endOpenPhase_pending (c : EndCause) : (endOpenPhase c s).pending = s.pending := by
  unfold endOpenPhase; try dsimp only
  (repeat' split) <;> simp [apply_ite State.pending]
@[simp] theorem endOpenPhase_nowMs (c : EndCause) : (endOpenPhase c s).nowMs = s.nowMs := by simp [State.nowMs]
@[simp] theorem endDelivery_time (c : EndCause) : (endDelivery c s).time = s.time := by
  unfold endDelivery; try dsimp only
  (repeat' split) <;> simp [apply_ite State.time]
@[simp] theorem endDelivery_inputs (c : EndCause) : (endDelivery c s).inputs = s.inputs := by
  unfold endDelivery; try dsimp only
  (repeat' split) <;> simp [apply_ite State.inputs]
@[simp] theorem endDelivery_mfe (c : EndCause) : (endDelivery c s).mfe = s.mfe := by
  unfold endDelivery; try dsimp only
  (repeat' split) <;> simp [apply_ite State.mfe]
@[simp] theorem endDelivery_lnk (c : EndCause) : (endDelivery c s).lnk = s.lnk := by
  unfold endDelivery; try dsimp only
  (repeat' split) <;> simp [apply_ite State.lnk]
@[simp] theorem endDelivery_pending (c : EndCause) : (endDelivery c s).pending = s.pending := by
  unfold endDelivery; try dsimp only
  (repeat' split) <;> simp [apply_ite State.pending]
@[simp] theorem endDelivery_nowMs (c : EndCause) : (endDelivery c s).nowMs = s.nowMs := by simp [State.nowMs]
@[simp] theorem seqPackFault_time : (seqPackFault s).time = s.time := by
  unfold seqPackFault; try dsimp only
  (repeat' split) <;> simp [apply_ite State.time]
@[simp] theorem seqPackFault_inputs : (seqPackFault s).inputs = s.inputs := by
  unfold seqPackFault; try dsimp only
  (repeat' split) <;> simp [apply_ite State.inputs]
@[simp] theorem seqPackFault_mfe : (seqPackFault s).mfe = s.mfe := by
  unfold seqPackFault; try dsimp only
  (repeat' split) <;> simp [apply_ite State.mfe]
@[simp] theorem seqPackFault_lnk : (seqPackFault s).lnk = s.lnk := by
  unfold seqPackFault; try dsimp only
  (repeat' split) <;> simp [apply_ite State.lnk]
@[simp] theorem seqPackFault_pending : (seqPackFault s).pending = s.pending := by
  unfold seqPackFault; try dsimp only
  (repeat' split) <;> simp [apply_ite State.pending]
@[simp] theorem seqPackFault_nowMs : (seqPackFault s).nowMs = s.nowMs := by simp [State.nowMs]
@[simp] theorem enterEnergy_time : (enterEnergy s).time = s.time := by
  unfold enterEnergy; try dsimp only
  (repeat' split) <;> simp [apply_ite State.time]
@[simp] theorem enterEnergy_inputs : (enterEnergy s).inputs = s.inputs := by
  unfold enterEnergy; try dsimp only
  (repeat' split) <;> simp [apply_ite State.inputs]
@[simp] theorem enterEnergy_mfe : (enterEnergy s).mfe = s.mfe := by
  unfold enterEnergy; try dsimp only
  (repeat' split) <;> simp [apply_ite State.mfe]
@[simp] theorem enterEnergy_lnk : (enterEnergy s).lnk = s.lnk := by
  unfold enterEnergy; try dsimp only
  (repeat' split) <;> simp [apply_ite State.lnk]
@[simp] theorem enterEnergy_pending : (enterEnergy s).pending = s.pending := by
  unfold enterEnergy; try dsimp only
  (repeat' split) <;> simp [apply_ite State.pending]
@[simp] theorem enterEnergy_nowMs : (enterEnergy s).nowMs = s.nowMs := by simp [State.nowMs]
@[simp] theorem enterWaiting_time (st : SeqState) : (enterWaiting st s).time = s.time := by
  unfold enterWaiting; try dsimp only
  (repeat' split) <;> simp [apply_ite State.time]
@[simp] theorem enterWaiting_inputs (st : SeqState) : (enterWaiting st s).inputs = s.inputs := by
  unfold enterWaiting; try dsimp only
  (repeat' split) <;> simp [apply_ite State.inputs]
@[simp] theorem enterWaiting_mfe (st : SeqState) : (enterWaiting st s).mfe = s.mfe := by
  unfold enterWaiting; try dsimp only
  (repeat' split) <;> simp [apply_ite State.mfe]
@[simp] theorem enterWaiting_lnk (st : SeqState) : (enterWaiting st s).lnk = s.lnk := by
  unfold enterWaiting; try dsimp only
  (repeat' split) <;> simp [apply_ite State.lnk]
@[simp] theorem enterWaiting_pending (st : SeqState) : (enterWaiting st s).pending = s.pending := by
  unfold enterWaiting; try dsimp only
  (repeat' split) <;> simp [apply_ite State.pending]
@[simp] theorem enterWaiting_nowMs (st : SeqState) : (enterWaiting st s).nowMs = s.nowMs := by simp [State.nowMs]
@[simp] theorem enterIsocheck_time : (enterIsocheck s).time = s.time := by
  unfold enterIsocheck; try dsimp only
  (repeat' split) <;> simp [apply_ite State.time]
@[simp] theorem enterIsocheck_inputs : (enterIsocheck s).inputs = s.inputs := by
  unfold enterIsocheck; try dsimp only
  (repeat' split) <;> simp [apply_ite State.inputs]
@[simp] theorem enterIsocheck_mfe : (enterIsocheck s).mfe = s.mfe := by
  unfold enterIsocheck; try dsimp only
  (repeat' split) <;> simp [apply_ite State.mfe]
@[simp] theorem enterIsocheck_lnk : (enterIsocheck s).lnk = s.lnk := by
  unfold enterIsocheck; try dsimp only
  (repeat' split) <;> simp [apply_ite State.lnk]
@[simp] theorem enterIsocheck_pending : (enterIsocheck s).pending = s.pending := by
  unfold enterIsocheck; try dsimp only
  (repeat' split) <;> simp [apply_ite State.pending]
@[simp] theorem enterIsocheck_nowMs : (enterIsocheck s).nowMs = s.nowMs := by simp [State.nowMs]
@[simp] theorem openSession_time (p : PendingStart) : (openSession p s).time = s.time := by
  unfold openSession; try dsimp only
  (repeat' split) <;> simp [apply_ite State.time]
@[simp] theorem openSession_inputs (p : PendingStart) : (openSession p s).inputs = s.inputs := by
  unfold openSession; try dsimp only
  (repeat' split) <;> simp [apply_ite State.inputs]
@[simp] theorem openSession_mfe (p : PendingStart) : (openSession p s).mfe = s.mfe := by
  unfold openSession; try dsimp only
  (repeat' split) <;> simp [apply_ite State.mfe]
@[simp] theorem openSession_lnk (p : PendingStart) : (openSession p s).lnk = s.lnk := by
  unfold openSession; try dsimp only
  (repeat' split) <;> simp [apply_ite State.lnk]
@[simp] theorem openSession_pending (p : PendingStart) : (openSession p s).pending = s.pending := by
  unfold openSession; try dsimp only
  (repeat' split) <;> simp [apply_ite State.pending]
@[simp] theorem openSession_nowMs (p : PendingStart) : (openSession p s).nowMs = s.nowMs := by simp [State.nowMs]
@[simp] theorem tryEndPhase_time : (tryEndPhase s).time = s.time := by
  unfold tryEndPhase; try dsimp only
  (repeat' split) <;> simp [apply_ite State.time]
@[simp] theorem tryEndPhase_inputs : (tryEndPhase s).inputs = s.inputs := by
  unfold tryEndPhase; try dsimp only
  (repeat' split) <;> simp [apply_ite State.inputs]
@[simp] theorem tryEndPhase_mfe : (tryEndPhase s).mfe = s.mfe := by
  unfold tryEndPhase; try dsimp only
  (repeat' split) <;> simp [apply_ite State.mfe]
@[simp] theorem tryEndPhase_lnk : (tryEndPhase s).lnk = s.lnk := by
  unfold tryEndPhase; try dsimp only
  (repeat' split) <;> simp [apply_ite State.lnk]
@[simp] theorem tryEndPhase_pending : (tryEndPhase s).pending = s.pending := by
  unfold tryEndPhase; try dsimp only
  (repeat' split) <;> simp [apply_ite State.pending]
@[simp] theorem tryEndPhase_nowMs : (tryEndPhase s).nowMs = s.nowMs := by simp [State.nowMs]
@[simp] theorem observeArrival_time : (observeArrival s).time = s.time := by
  unfold observeArrival; try dsimp only
  (repeat' split) <;> simp [apply_ite State.time]
@[simp] theorem observeArrival_inputs : (observeArrival s).inputs = s.inputs := by
  unfold observeArrival; try dsimp only
  (repeat' split) <;> simp [apply_ite State.inputs]
@[simp] theorem observeArrival_mfe : (observeArrival s).mfe = s.mfe := by
  unfold observeArrival; try dsimp only
  (repeat' split) <;> simp [apply_ite State.mfe]
@[simp] theorem observeArrival_lnk : (observeArrival s).lnk = s.lnk := by
  unfold observeArrival; try dsimp only
  (repeat' split) <;> simp [apply_ite State.lnk]
@[simp] theorem observeArrival_pending : (observeArrival s).pending = s.pending := by
  unfold observeArrival; try dsimp only
  (repeat' split) <;> simp [apply_ite State.pending]
@[simp] theorem observeArrival_nowMs : (observeArrival s).nowMs = s.nowMs := by simp [State.nowMs]
@[simp] theorem isocheckFailure_time : (isocheckFailure s).time = s.time := by
  unfold isocheckFailure; try dsimp only
  (repeat' split) <;> simp [apply_ite State.time]
@[simp] theorem isocheckFailure_inputs : (isocheckFailure s).inputs = s.inputs := by
  unfold isocheckFailure; try dsimp only
  (repeat' split) <;> simp [apply_ite State.inputs]
@[simp] theorem isocheckFailure_mfe : (isocheckFailure s).mfe = s.mfe := by
  unfold isocheckFailure; try dsimp only
  (repeat' split) <;> simp [apply_ite State.mfe]
@[simp] theorem isocheckFailure_lnk : (isocheckFailure s).lnk = s.lnk := by
  unfold isocheckFailure; try dsimp only
  (repeat' split) <;> simp [apply_ite State.lnk]
@[simp] theorem isocheckFailure_pending : (isocheckFailure s).pending = s.pending := by
  unfold isocheckFailure; try dsimp only
  (repeat' split) <;> simp [apply_ite State.pending]
@[simp] theorem isocheckFailure_nowMs : (isocheckFailure s).nowMs = s.nowMs := by simp [State.nowMs]
@[simp] theorem judgeInlet_time (n : Nat) : (judgeInlet n s).time = s.time := by
  unfold judgeInlet; try dsimp only
  (repeat' split) <;> simp [apply_ite State.time]
@[simp] theorem judgeInlet_inputs (n : Nat) : (judgeInlet n s).inputs = s.inputs := by
  unfold judgeInlet; try dsimp only
  (repeat' split) <;> simp [apply_ite State.inputs]
@[simp] theorem judgeInlet_mfe (n : Nat) : (judgeInlet n s).mfe = s.mfe := by
  unfold judgeInlet; try dsimp only
  (repeat' split) <;> simp [apply_ite State.mfe]
@[simp] theorem judgeInlet_lnk (n : Nat) : (judgeInlet n s).lnk = s.lnk := by
  unfold judgeInlet; try dsimp only
  (repeat' split) <;> simp [apply_ite State.lnk]
@[simp] theorem judgeInlet_pending (n : Nat) : (judgeInlet n s).pending = s.pending := by
  unfold judgeInlet; try dsimp only
  (repeat' split) <;> simp [apply_ite State.pending]
@[simp] theorem judgeInlet_nowMs (n : Nat) : (judgeInlet n s).nowMs = s.nowMs := by simp [State.nowMs]
@[simp] theorem enterTaper_time : (enterTaper s).time = s.time := by
  unfold enterTaper; try dsimp only
  (repeat' split) <;> simp [apply_ite State.time]
@[simp] theorem enterTaper_inputs : (enterTaper s).inputs = s.inputs := by
  unfold enterTaper; try dsimp only
  (repeat' split) <;> simp [apply_ite State.inputs]
@[simp] theorem enterTaper_mfe : (enterTaper s).mfe = s.mfe := by
  unfold enterTaper; try dsimp only
  (repeat' split) <;> simp [apply_ite State.mfe]
@[simp] theorem enterTaper_lnk : (enterTaper s).lnk = s.lnk := by
  unfold enterTaper; try dsimp only
  (repeat' split) <;> simp [apply_ite State.lnk]
@[simp] theorem enterTaper_pending : (enterTaper s).pending = s.pending := by
  unfold enterTaper; try dsimp only
  (repeat' split) <;> simp [apply_ite State.pending]
@[simp] theorem enterTaper_nowMs : (enterTaper s).nowMs = s.nowMs := by simp [State.nowMs]
@[simp] theorem reduceCeiling_time (p : ProfileCommon) : (reduceCeiling p s).time = s.time := by
  unfold reduceCeiling; try dsimp only
  (repeat' split) <;> simp [apply_ite State.time]
@[simp] theorem reduceCeiling_inputs (p : ProfileCommon) : (reduceCeiling p s).inputs = s.inputs := by
  unfold reduceCeiling; try dsimp only
  (repeat' split) <;> simp [apply_ite State.inputs]
@[simp] theorem reduceCeiling_mfe (p : ProfileCommon) : (reduceCeiling p s).mfe = s.mfe := by
  unfold reduceCeiling; try dsimp only
  (repeat' split) <;> simp [apply_ite State.mfe]
@[simp] theorem reduceCeiling_lnk (p : ProfileCommon) : (reduceCeiling p s).lnk = s.lnk := by
  unfold reduceCeiling; try dsimp only
  (repeat' split) <;> simp [apply_ite State.lnk]
@[simp] theorem reduceCeiling_pending (p : ProfileCommon) : (reduceCeiling p s).pending = s.pending := by
  unfold reduceCeiling; try dsimp only
  (repeat' split) <;> simp [apply_ite State.pending]
@[simp] theorem reduceCeiling_nowMs (p : ProfileCommon) : (reduceCeiling p s).nowMs = s.nowMs := by simp [State.nowMs]
@[simp] theorem taperReading_time (v : Nat) : (taperReading v s).time = s.time := by
  unfold taperReading; try dsimp only
  (repeat' split) <;> simp [apply_ite State.time]
@[simp] theorem taperReading_inputs (v : Nat) : (taperReading v s).inputs = s.inputs := by
  unfold taperReading; try dsimp only
  (repeat' split) <;> simp [apply_ite State.inputs]
@[simp] theorem taperReading_mfe (v : Nat) : (taperReading v s).mfe = s.mfe := by
  unfold taperReading; try dsimp only
  (repeat' split) <;> simp [apply_ite State.mfe]
@[simp] theorem taperReading_lnk (v : Nat) : (taperReading v s).lnk = s.lnk := by
  unfold taperReading; try dsimp only
  (repeat' split) <;> simp [apply_ite State.lnk]
@[simp] theorem taperReading_pending (v : Nat) : (taperReading v s).pending = s.pending := by
  unfold taperReading; try dsimp only
  (repeat' split) <;> simp [apply_ite State.pending]
@[simp] theorem taperReading_nowMs (v : Nat) : (taperReading v s).nowMs = s.nowMs := by simp [State.nowMs]
@[simp] theorem capTest_time : (capTest s).time = s.time := by
  unfold capTest; try dsimp only
  (repeat' split) <;> simp [apply_ite State.time]
@[simp] theorem capTest_inputs : (capTest s).inputs = s.inputs := by
  unfold capTest; try dsimp only
  (repeat' split) <;> simp [apply_ite State.inputs]
@[simp] theorem capTest_mfe : (capTest s).mfe = s.mfe := by
  unfold capTest; try dsimp only
  (repeat' split) <;> simp [apply_ite State.mfe]
@[simp] theorem capTest_lnk : (capTest s).lnk = s.lnk := by
  unfold capTest; try dsimp only
  (repeat' split) <;> simp [apply_ite State.lnk]
@[simp] theorem capTest_pending : (capTest s).pending = s.pending := by
  unfold capTest; try dsimp only
  (repeat' split) <;> simp [apply_ite State.pending]
@[simp] theorem capTest_nowMs : (capTest s).nowMs = s.nowMs := by simp [State.nowMs]
@[simp] theorem closingFails_time : (closingFails s).time = s.time := by
  unfold closingFails; try dsimp only
  (repeat' split) <;> simp [apply_ite State.time]
@[simp] theorem closingFails_inputs : (closingFails s).inputs = s.inputs := by
  unfold closingFails; try dsimp only
  (repeat' split) <;> simp [apply_ite State.inputs]
@[simp] theorem closingFails_mfe : (closingFails s).mfe = s.mfe := by
  unfold closingFails; try dsimp only
  (repeat' split) <;> simp [apply_ite State.mfe]
@[simp] theorem closingFails_lnk : (closingFails s).lnk = s.lnk := by
  unfold closingFails; try dsimp only
  (repeat' split) <;> simp [apply_ite State.lnk]
@[simp] theorem closingFails_pending : (closingFails s).pending = s.pending := by
  unfold closingFails; try dsimp only
  (repeat' split) <;> simp [apply_ite State.pending]
@[simp] theorem closingFails_nowMs : (closingFails s).nowMs = s.nowMs := by simp [State.nowMs]
@[simp] theorem heaterFault_time : (heaterFault s).time = s.time := by
  unfold heaterFault; try dsimp only
  (repeat' split) <;> simp [apply_ite State.time]
@[simp] theorem heaterFault_inputs : (heaterFault s).inputs = s.inputs := by
  unfold heaterFault; try dsimp only
  (repeat' split) <;> simp [apply_ite State.inputs]
@[simp] theorem heaterFault_mfe : (heaterFault s).mfe = s.mfe := by
  unfold heaterFault; try dsimp only
  (repeat' split) <;> simp [apply_ite State.mfe]
@[simp] theorem heaterFault_lnk : (heaterFault s).lnk = s.lnk := by
  unfold heaterFault; try dsimp only
  (repeat' split) <;> simp [apply_ite State.lnk]
@[simp] theorem heaterFault_pending : (heaterFault s).pending = s.pending := by
  unfold heaterFault; try dsimp only
  (repeat' split) <;> simp [apply_ite State.pending]
@[simp] theorem heaterFault_nowMs : (heaterFault s).nowMs = s.nowMs := by simp [State.nowMs]
@[simp] theorem packFault_time : (packFault s).time = s.time := by
  unfold packFault; try dsimp only
  (repeat' split) <;> simp [apply_ite State.time]
@[simp] theorem packFault_inputs : (packFault s).inputs = s.inputs := by
  unfold packFault; try dsimp only
  (repeat' split) <;> simp [apply_ite State.inputs]
@[simp] theorem packFault_mfe : (packFault s).mfe = s.mfe := by
  unfold packFault; try dsimp only
  (repeat' split) <;> simp [apply_ite State.mfe]
@[simp] theorem packFault_lnk : (packFault s).lnk = s.lnk := by
  unfold packFault; try dsimp only
  (repeat' split) <;> simp [apply_ite State.lnk]
@[simp] theorem packFault_pending : (packFault s).pending = s.pending := by
  unfold packFault; try dsimp only
  (repeat' split) <;> simp [apply_ite State.pending]
@[simp] theorem packFault_nowMs : (packFault s).nowMs = s.nowMs := by simp [State.nowMs]
@[simp] theorem levelEntered_time (c : Section) (l : IsoLevel) : (levelEntered c l s).time = s.time := by
  unfold levelEntered; try dsimp only
  (repeat' split) <;> simp [apply_ite State.time]
@[simp] theorem levelEntered_inputs (c : Section) (l : IsoLevel) : (levelEntered c l s).inputs = s.inputs := by
  unfold levelEntered; try dsimp only
  (repeat' split) <;> simp [apply_ite State.inputs]
@[simp] theorem levelEntered_mfe (c : Section) (l : IsoLevel) : (levelEntered c l s).mfe = s.mfe := by
  unfold levelEntered; try dsimp only
  (repeat' split) <;> simp [apply_ite State.mfe]
@[simp] theorem levelEntered_lnk (c : Section) (l : IsoLevel) : (levelEntered c l s).lnk = s.lnk := by
  unfold levelEntered; try dsimp only
  (repeat' split) <;> simp [apply_ite State.lnk]
@[simp] theorem levelEntered_pending (c : Section) (l : IsoLevel) : (levelEntered c l s).pending = s.pending := by
  unfold levelEntered; try dsimp only
  (repeat' split) <;> simp [apply_ite State.pending]
@[simp] theorem levelEntered_nowMs (c : Section) (l : IsoLevel) : (levelEntered c l s).nowMs = s.nowMs := by simp [State.nowMs]
@[simp] theorem judgeLevel_time (c : Section) (k : Slot) (n : Nat) : (judgeLevel c k n s).time = s.time := by
  unfold judgeLevel; try dsimp only
  (repeat' split) <;> simp [apply_ite State.time]
@[simp] theorem judgeLevel_inputs (c : Section) (k : Slot) (n : Nat) : (judgeLevel c k n s).inputs = s.inputs := by
  unfold judgeLevel; try dsimp only
  (repeat' split) <;> simp [apply_ite State.inputs]
@[simp] theorem judgeLevel_mfe (c : Section) (k : Slot) (n : Nat) : (judgeLevel c k n s).mfe = s.mfe := by
  unfold judgeLevel; try dsimp only
  (repeat' split) <;> simp [apply_ite State.mfe]
@[simp] theorem judgeLevel_lnk (c : Section) (k : Slot) (n : Nat) : (judgeLevel c k n s).lnk = s.lnk := by
  unfold judgeLevel; try dsimp only
  (repeat' split) <;> simp [apply_ite State.lnk]
@[simp] theorem judgeLevel_pending (c : Section) (k : Slot) (n : Nat) : (judgeLevel c k n s).pending = s.pending := by
  unfold judgeLevel; try dsimp only
  (repeat' split) <;> simp [apply_ite State.pending]
@[simp] theorem judgeLevel_nowMs (c : Section) (k : Slot) (n : Nat) : (judgeLevel c k n s).nowMs = s.nowMs := by simp [State.nowMs]
@[simp] theorem storeOutcome_time (c : Section) (k : Slot) (o : IsoOutcome) : (storeOutcome c k o s).time = s.time := by
  unfold storeOutcome; try dsimp only
  (repeat' split) <;> simp [apply_ite State.time]
@[simp] theorem storeOutcome_inputs (c : Section) (k : Slot) (o : IsoOutcome) : (storeOutcome c k o s).inputs = s.inputs := by
  unfold storeOutcome; try dsimp only
  (repeat' split) <;> simp [apply_ite State.inputs]
@[simp] theorem storeOutcome_mfe (c : Section) (k : Slot) (o : IsoOutcome) : (storeOutcome c k o s).mfe = s.mfe := by
  unfold storeOutcome; try dsimp only
  (repeat' split) <;> simp [apply_ite State.mfe]
@[simp] theorem storeOutcome_lnk (c : Section) (k : Slot) (o : IsoOutcome) : (storeOutcome c k o s).lnk = s.lnk := by
  unfold storeOutcome; try dsimp only
  (repeat' split) <;> simp [apply_ite State.lnk]
@[simp] theorem storeOutcome_pending (c : Section) (k : Slot) (o : IsoOutcome) : (storeOutcome c k o s).pending = s.pending := by
  unfold storeOutcome; try dsimp only
  (repeat' split) <;> simp [apply_ite State.pending]
@[simp] theorem storeOutcome_nowMs (c : Section) (k : Slot) (o : IsoOutcome) : (storeOutcome c k o s).nowMs = s.nowMs := by simp [State.nowMs]
@[simp] theorem settleSlot_time (k : Slot) : (settleSlot k s).time = s.time := by
  unfold settleSlot; try dsimp only
  (repeat' split) <;> simp [apply_ite State.time]
@[simp] theorem settleSlot_inputs (k : Slot) : (settleSlot k s).inputs = s.inputs := by
  unfold settleSlot; try dsimp only
  (repeat' split) <;> simp [apply_ite State.inputs]
@[simp] theorem settleSlot_mfe (k : Slot) : (settleSlot k s).mfe = s.mfe := by
  unfold settleSlot; try dsimp only
  (repeat' split) <;> simp [apply_ite State.mfe]
@[simp] theorem settleSlot_seq (k : Slot) : (settleSlot k s).seq = s.seq := by
  unfold settleSlot; try dsimp only
  (repeat' split) <;> simp [apply_ite State.seq]
@[simp] theorem settleSlot_alc (k : Slot) : (settleSlot k s).alc = s.alc := by
  unfold settleSlot; try dsimp only
  (repeat' split) <;> simp [apply_ite State.alc]
@[simp] theorem settleSlot_htr (k : Slot) : (settleSlot k s).htr = s.htr := by
  unfold settleSlot; try dsimp only
  (repeat' split) <;> simp [apply_ite State.htr]
@[simp] theorem settleSlot_mtr (k : Slot) : (settleSlot k s).mtr = s.mtr := by
  unfold settleSlot; try dsimp only
  (repeat' split) <;> simp [apply_ite State.mtr]
@[simp] theorem settleSlot_bil (k : Slot) : (settleSlot k s).bil = s.bil := by
  unfold settleSlot; try dsimp only
  (repeat' split) <;> simp [apply_ite State.bil]
@[simp] theorem settleSlot_evt (k : Slot) : (settleSlot k s).evt = s.evt := by
  unfold settleSlot; try dsimp only
  (repeat' split) <;> simp [apply_ite State.evt]
@[simp] theorem settleSlot_lnk (k : Slot) : (settleSlot k s).lnk = s.lnk := by
  unfold settleSlot; try dsimp only
  (repeat' split) <;> simp [apply_ite State.lnk]
@[simp] theorem settleSlot_pending (k : Slot) : (settleSlot k s).pending = s.pending := by
  unfold settleSlot; try dsimp only
  (repeat' split) <;> simp [apply_ite State.pending]
@[simp] theorem settleSlot_nowMs (k : Slot) : (settleSlot k s).nowMs = s.nowMs := by simp [State.nowMs]
@[simp] theorem deliver_time (k : Slot) (o : IsoOutcome) : (deliver k o s).time = s.time := by
  unfold deliver; try dsimp only
  (repeat' split) <;> simp [apply_ite State.time]
@[simp] theorem deliver_inputs (k : Slot) (o : IsoOutcome) : (deliver k o s).inputs = s.inputs := by
  unfold deliver; try dsimp only
  (repeat' split) <;> simp [apply_ite State.inputs]
@[simp] theorem deliver_mfe (k : Slot) (o : IsoOutcome) : (deliver k o s).mfe = s.mfe := by
  unfold deliver; try dsimp only
  (repeat' split) <;> simp [apply_ite State.mfe]
@[simp] theorem deliver_lnk (k : Slot) (o : IsoOutcome) : (deliver k o s).lnk = s.lnk := by
  unfold deliver; try dsimp only
  (repeat' split) <;> simp [apply_ite State.lnk]
@[simp] theorem deliver_pending (k : Slot) (o : IsoOutcome) : (deliver k o s).pending = s.pending := by
  unfold deliver; try dsimp only
  (repeat' split) <;> simp [apply_ite State.pending]
@[simp] theorem deliver_nowMs (k : Slot) (o : IsoOutcome) : (deliver k o s).nowMs = s.nowMs := by simp [State.nowMs]
@[simp] theorem complete_time (k : Slot) (c : Section) (x y : Nat × Nat) : (complete k c x y s).time = s.time := by
  unfold complete; try dsimp only
  (repeat' split) <;> simp [apply_ite State.time]
@[simp] theorem complete_inputs (k : Slot) (c : Section) (x y : Nat × Nat) : (complete k c x y s).inputs = s.inputs := by
  unfold complete; try dsimp only
  (repeat' split) <;> simp [apply_ite State.inputs]
@[simp] theorem complete_mfe (k : Slot) (c : Section) (x y : Nat × Nat) : (complete k c x y s).mfe = s.mfe := by
  unfold complete; try dsimp only
  (repeat' split) <;> simp [apply_ite State.mfe]
@[simp] theorem complete_lnk (k : Slot) (c : Section) (x y : Nat × Nat) : (complete k c x y s).lnk = s.lnk := by
  unfold complete; try dsimp only
  (repeat' split) <;> simp [apply_ite State.lnk]
@[simp] theorem complete_pending (k : Slot) (c : Section) (x y : Nat × Nat) : (complete k c x y s).pending = s.pending := by
  unfold complete; try dsimp only
  (repeat' split) <;> simp [apply_ite State.pending]
@[simp] theorem complete_nowMs (k : Slot) (c : Section) (x y : Nat × Nat) : (complete k c x y s).nowMs = s.nowMs := by simp [State.nowMs]
@[simp] theorem takeSample_time (m : Measurement) : (takeSample m s).time = s.time := by
  unfold takeSample; try dsimp only
  (repeat' split) <;> simp [apply_ite State.time]
@[simp] theorem takeSample_inputs (m : Measurement) : (takeSample m s).inputs = s.inputs := by
  unfold takeSample; try dsimp only
  (repeat' split) <;> simp [apply_ite State.inputs]
@[simp] theorem takeSample_mfe (m : Measurement) : (takeSample m s).mfe = s.mfe := by
  unfold takeSample; try dsimp only
  (repeat' split) <;> simp [apply_ite State.mfe]
@[simp] theorem takeSample_lnk (m : Measurement) : (takeSample m s).lnk = s.lnk := by
  unfold takeSample; try dsimp only
  (repeat' split) <;> simp [apply_ite State.lnk]
@[simp] theorem takeSample_pending (m : Measurement) : (takeSample m s).pending = s.pending := by
  unfold takeSample; try dsimp only
  (repeat' split) <;> simp [apply_ite State.pending]
@[simp] theorem takeSample_nowMs (m : Measurement) : (takeSample m s).nowMs = s.nowMs := by simp [State.nowMs]
@[simp] theorem railArrival_time (x y : Nat) : (railArrival x y s).time = s.time := by
  unfold railArrival; try dsimp only
  (repeat' split) <;> simp [apply_ite State.time]
@[simp] theorem railArrival_inputs (x y : Nat) : (railArrival x y s).inputs = s.inputs := by
  unfold railArrival; try dsimp only
  (repeat' split) <;> simp [apply_ite State.inputs]
@[simp] theorem railArrival_mfe (x y : Nat) : (railArrival x y s).mfe = s.mfe := by
  unfold railArrival; try dsimp only
  (repeat' split) <;> simp [apply_ite State.mfe]
@[simp] theorem railArrival_lnk (x y : Nat) : (railArrival x y s).lnk = s.lnk := by
  unfold railArrival; try dsimp only
  (repeat' split) <;> simp [apply_ite State.lnk]
@[simp] theorem railArrival_pending (x y : Nat) : (railArrival x y s).pending = s.pending := by
  unfold railArrival; try dsimp only
  (repeat' split) <;> simp [apply_ite State.pending]
@[simp] theorem railArrival_nowMs (x y : Nat) : (railArrival x y s).nowMs = s.nowMs := by simp [State.nowMs]
@[simp] theorem settleEnd_time : (settleEnd s).time = s.time := by
  unfold settleEnd; try dsimp only
  (repeat' split) <;> simp [apply_ite State.time]
@[simp] theorem settleEnd_inputs : (settleEnd s).inputs = s.inputs := by
  unfold settleEnd; try dsimp only
  (repeat' split) <;> simp [apply_ite State.inputs]
@[simp] theorem settleEnd_mfe : (settleEnd s).mfe = s.mfe := by
  unfold settleEnd; try dsimp only
  (repeat' split) <;> simp [apply_ite State.mfe]
@[simp] theorem settleEnd_seq : (settleEnd s).seq = s.seq := by
  unfold settleEnd; try dsimp only
  (repeat' split) <;> simp [apply_ite State.seq]
@[simp] theorem settleEnd_alc : (settleEnd s).alc = s.alc := by
  unfold settleEnd; try dsimp only
  (repeat' split) <;> simp [apply_ite State.alc]
@[simp] theorem settleEnd_htr : (settleEnd s).htr = s.htr := by
  unfold settleEnd; try dsimp only
  (repeat' split) <;> simp [apply_ite State.htr]
@[simp] theorem settleEnd_mtr : (settleEnd s).mtr = s.mtr := by
  unfold settleEnd; try dsimp only
  (repeat' split) <;> simp [apply_ite State.mtr]
@[simp] theorem settleEnd_bil : (settleEnd s).bil = s.bil := by
  unfold settleEnd; try dsimp only
  (repeat' split) <;> simp [apply_ite State.bil]
@[simp] theorem settleEnd_evt : (settleEnd s).evt = s.evt := by
  unfold settleEnd; try dsimp only
  (repeat' split) <;> simp [apply_ite State.evt]
@[simp] theorem settleEnd_lnk : (settleEnd s).lnk = s.lnk := by
  unfold settleEnd; try dsimp only
  (repeat' split) <;> simp [apply_ite State.lnk]
@[simp] theorem settleEnd_pending : (settleEnd s).pending = s.pending := by
  unfold settleEnd; try dsimp only
  (repeat' split) <;> simp [apply_ite State.pending]
@[simp] theorem settleEnd_nowMs : (settleEnd s).nowMs = s.nowMs := by simp [State.nowMs]
@[simp] theorem periodExpiry_time : (periodExpiry s).time = s.time := by
  unfold periodExpiry; try dsimp only
  (repeat' split) <;> simp [apply_ite State.time]
@[simp] theorem periodExpiry_inputs : (periodExpiry s).inputs = s.inputs := by
  unfold periodExpiry; try dsimp only
  (repeat' split) <;> simp [apply_ite State.inputs]
@[simp] theorem periodExpiry_mfe : (periodExpiry s).mfe = s.mfe := by
  unfold periodExpiry; try dsimp only
  (repeat' split) <;> simp [apply_ite State.mfe]
@[simp] theorem periodExpiry_seq : (periodExpiry s).seq = s.seq := by
  unfold periodExpiry; try dsimp only
  (repeat' split) <;> simp [apply_ite State.seq]
@[simp] theorem periodExpiry_alc : (periodExpiry s).alc = s.alc := by
  unfold periodExpiry; try dsimp only
  (repeat' split) <;> simp [apply_ite State.alc]
@[simp] theorem periodExpiry_htr : (periodExpiry s).htr = s.htr := by
  unfold periodExpiry; try dsimp only
  (repeat' split) <;> simp [apply_ite State.htr]
@[simp] theorem periodExpiry_mtr : (periodExpiry s).mtr = s.mtr := by
  unfold periodExpiry; try dsimp only
  (repeat' split) <;> simp [apply_ite State.mtr]
@[simp] theorem periodExpiry_bil : (periodExpiry s).bil = s.bil := by
  unfold periodExpiry; try dsimp only
  (repeat' split) <;> simp [apply_ite State.bil]
@[simp] theorem periodExpiry_evt : (periodExpiry s).evt = s.evt := by
  unfold periodExpiry; try dsimp only
  (repeat' split) <;> simp [apply_ite State.evt]
@[simp] theorem periodExpiry_lnk : (periodExpiry s).lnk = s.lnk := by
  unfold periodExpiry; try dsimp only
  (repeat' split) <;> simp [apply_ite State.lnk]
@[simp] theorem periodExpiry_pending : (periodExpiry s).pending = s.pending := by
  unfold periodExpiry; try dsimp only
  (repeat' split) <;> simp [apply_ite State.pending]
@[simp] theorem periodExpiry_nowMs : (periodExpiry s).nowMs = s.nowMs := by simp [State.nowMs]

end Sys2Proof.Machine
end

