-- ==== Sys2Proof/Laws/Heater.lean ====
section
/-! SUPPORT. When a pack-heat run is active (R67), and which shared operations end one or leave it so (R68). -/
namespace Sys2Proof.Machine
open Sys2Proof

set_option Elab.async false

/-- R67: a run is active while its record has no end. -/
theorem State.runActive_iff (s : State) :
    s.runActive = true ↔ ∃ run, s.htr.run = some run ∧ run.ended = none := by
  unfold State.runActive
  cases s.htr.run <;> simp

/-- R67: the level noted in the run record ends no run. -/
@[simp] theorem RunRecord.noteLevel_ended (r : RunRecord) (l : Option Level) :
    (r.noteLevel l).ended = r.ended := by
  unfold RunRecord.noteLevel
  cases l with
  | none => rfl
  | some l => dsimp only; split <;> rfl

/-- R63: the level of the PACK source ends no run and starts none. -/
@[simp] theorem setPackLevel_runActive (l : Option Level) (s : State) :
    (setPackLevel l s).runActive = s.runActive := by
  unfold setPackLevel State.runActive
  simp only [State.withHtr_htr]
  cases s.htr.run <;> simp

@[simp] theorem followPack_runActive (s : State) : (followPack s).runActive = s.runActive := by
  unfold followPack
  split
  · split
    · exact setPackLevel_runActive _ _
    · rfl
  · rfl

/-- R68, step 2: after the end no run is active. -/
@[simp] theorem endRun_runActive (cause : HeatEnd) (s : State) : (endRun cause s).runActive = false := by
  unfold endRun
  split
  · simp only [State.runActive, State.withSeq_htr, State.withHtr_htr]
    cases (cutForRun s).htr.run <;> rfl
  · next h => simpa using h

end Sys2Proof.Machine
end

