-- ==== Sys2Proof/Laws/Link.lean ====
section
/-! SUPPORT. What LNK's operations can do: a frame that meets a ready slot is answered, one that meets an
occupied slot owes a BUSY, one that meets an owed BUSY is an overrun; and what the outbound side takes. -/
namespace Sys2Proof.Machine
open Sys2Proof

set_option Elab.async false

/-- R183: a request that meets a ready slot is taken, handled and answered. -/
theorem requestArrival_ready {a : Arrival} {kind : Byte} {owner : Owner} {s : State}
    (h : slotReady s = true) :
    requestArrival a kind owner s
      = answered kind (owner (taken a s)).2 (owner (taken a s)).1 := by
  simp only [slotReady, Bool.and_eq_true, Bool.not_eq_true', Option.isNone_iff_eq_none] at h
  simp [requestArrival, frameComplete, takeRequest, taken, answered, h]

/-- R184: a request that meets an occupied slot or a pending restart, with no BUSY owed. -/
theorem requestArrival_busy {a : Arrival} {kind : Byte} {owner : Owner} {s : State}
    (h : s.lnk.owedBusy = none) (h' : s.lnk.slot.isSome || s.lnk.restartPending) :
    requestArrival a kind owner s = pump (oweBusy kind (arrive a s)) := by
  simp only [requestArrival, frameComplete, arrive_lnk, h, Option.isSome_none]
  simp [h']

/-- R185: a request that meets an owed BUSY. -/
theorem requestArrival_overrun {a : Arrival} {kind : Byte} {owner : Owner} {s : State}
    (h : s.lnk.owedBusy.isSome = true) :
    requestArrival a kind owner s = pump (overrun (arrive a s)) := by
  simp [requestArrival, frameComplete, h]

/-- A SENDING outbound side takes nothing. -/
theorem pump_sending {s : State} {bytes : List Byte} {ends : Nat} {restart : Bool}
    (h : s.lnk.out = .sending bytes ends restart) : pump s = s := by
  simp [pump, h]

/-- A reply that finds the side FREE goes to the line; one that finds it SENDING waits in the slot. -/
theorem answered_cases (kind : Byte) (reply : List Byte) (s : State) :
    (s.lnk.out = .free
      ∧ answered kind reply s
        = takeReply { kind := kind, reply := reply }
            (s.withLnk { s.lnk with slot := some { kind := kind, reply := reply } }))
    ∨ ((∃ b e r, s.lnk.out = .sending b e r)
      ∧ answered kind reply s
        = s.withLnk { s.lnk with slot := some { kind := kind, reply := reply } }) := by
  cases h : s.lnk.out with
  | free => left; simp [answered, pump, h]
  | sending b e r => right; exact ⟨⟨b, e, r, rfl⟩, by simp [answered, pump, h]⟩

end Sys2Proof.Machine
end

