-- ==== Sys2Proof/Laws/Scan.lean ====
section
/-! SUPPORT. What the wake of an idle scan (R90) and an addition to a signed total (R152) can do, said once. -/
namespace Sys2Proof.Machine
open Sys2Proof

set_option Elab.async false

/-- R90: an arrival makes a section of the scan measurable when one that was not is so now. -/
theorem becameMeasurable_iff (before s : State) : becameMeasurable before s = true ↔
    ∃ sec : Section, s.ism.scan.first.num ≤ sec.num ∧ sec.num ≤ s.ism.scan.last.num
      ∧ measurable s sec = true ∧ measurable before sec = false := by
  constructor
  · intro h
    simp only [becameMeasurable, List.any_cons, List.any_nil, Bool.or_eq_true, Bool.and_eq_true,
      decide_eq_true_eq, Bool.or_false, Bool.not_eq_true'] at h
    rcases h with h | h | h
    · exact ⟨_, h.1.1.1, h.1.1.2, h.1.2, h.2⟩
    · exact ⟨_, h.1.1.1, h.1.1.2, h.1.2, h.2⟩
    · exact ⟨_, h.1.1.1, h.1.1.2, h.1.2, h.2⟩
  · rintro ⟨sec, h1, h2, h3, h4⟩
    cases sec <;> simp [becameMeasurable, h1, h2, h3, h4]

/-- An arrival makes nothing measurable beside the state it leads to. -/
@[simp] theorem becameMeasurable_self (s : State) : becameMeasurable s s = false := by
  cases h : becameMeasurable s s with
  | false => rfl
  | true =>
    obtain ⟨_, _, _, h3, h4⟩ := (becameMeasurable_iff s s).1 h
    rw [h3] at h4
    cases h4

/-- The wake either starts a pass, of an idle CONTINUOUS scan a section of which became measurable, or
leaves the state as it is. -/
theorem wakeScan_cases (before s : State) :
    (s.ism.scan.mode = .continuous ∧ s.ism.scan.busy = false ∧ becameMeasurable before s = true
      ∧ wakeScan before s = withScan Scan.startPass s)
    ∨ (¬ (s.ism.scan.mode = .continuous ∧ s.ism.scan.busy = false
        ∧ becameMeasurable before s = true) ∧ wakeScan before s = s) := by
  unfold wakeScan
  split
  · next h => exact .inl ⟨h.1, h.2.1, h.2.2, rfl⟩
  · next h => exact .inr ⟨h, rfl⟩

/-- R152: an addition leaves a total at a limit as it is, and else stops at the limits. -/
theorem addI32_cases (a b : Int) :
    ((a ≤ -2147483648 ∨ 2147483647 ≤ a) ∧ addI32 a b = a)
    ∨ ((-2147483648 < a ∧ a < 2147483647)
      ∧ addI32 a b = max (-2147483648) (min 2147483647 (a + b))) := by
  unfold addI32 Config.minI32 Config.maxI32
  by_cases h : a ≤ -2147483648 ∨ 2147483647 ≤ a
  · exact .inl ⟨h, by rw [if_pos h]⟩
  · refine .inr ⟨by omega, ?_⟩
    rw [if_neg h]
    split
    · omega
    · split <;> omega

end Sys2Proof.Machine
end

