-- ==== Sys2Proof/Laws/Withdraw.lean ====
section
/-! SUPPORT. What a discard and the two withdrawals of R82 leave of ISM, said once. -/
namespace Sys2Proof.Machine
open Sys2Proof

set_option Elab.async false

/-- R82: a discard frees the network and counts in its section's record; of ISM nothing else changes. -/
theorem discard_ism_some {s : State} {m : Measurement} (h : s.ism.flight = some m) :
    (discard s).ism = { s.ism with flight := none }.withRecord m.sec
      { s.ism.record m.sec with discarded := bump16 (s.ism.record m.sec).discarded } := by
  obtain ⟨_, _, sec, _, _, _, _, _, _, _⟩ := m
  unfold discard
  rw [h]
  cases sec <;> simp [updateRecord, Ism.record, Ism.withRecord]

/-- With the network FREE a discard does nothing. -/
theorem discard_none {s : State} (h : s.ism.flight = none) : discard s = s := by
  unfold discard
  rw [h]

/-- The records after one of them is replaced. -/
theorem Ism.record_withRecord (i : Ism) (a b : Section) (r : SectionRecord) :
    (i.withRecord a r).record b = if b = a then r else i.record b := by
  cases a <;> cases b <;> rfl

/-- R82: HTR's withdrawal empties the HEATER slot, and discards the measurement in flight for it. -/
theorem withdrawHeater_ism (s : State) :
    (withdrawHeater s).ism
      = { (if s.ism.serves .heater then discard s else s).ism with slotHeater := false } := rfl

/-- R82: SEQ's withdrawal empties the SEQUENCER slot, and discards the measurement in flight for it. -/
theorem withdrawSeq_ism (s : State) :
    (withdrawSeq s).ism
      = { (if s.ism.serves .sequencer then discard s else s).ism with slotSeq := false } := rfl

/-- A slot is served exactly by a measurement in flight for it. -/
theorem Ism.serves_iff (i : Ism) (slot : Slot) :
    i.serves slot = true ↔ ∃ m, i.flight = some m ∧ m.slot = slot := by
  unfold Ism.serves
  cases i.flight <;> simp

end Sys2Proof.Machine
end

