-- ==== Sys2Proof/Tests/Slice0.lean ====
section
/-! SUPPORT. The author's tests: what the WellFormed checks refuse, the manual's worked examples, one or two
steps of each command, and a witness for every statement that has hypotheses (each clause, at a boundary of
its range where it has one). Expected figures are the manual's; each test names where they stand. -/
namespace Sys2Proof.Tests
open Sys2Proof Sys2Proof.Machine

set_option Elab.async false

/-! ## Small states -/

/-- A command that arrives this many µs after the one before it, with no power in any channel. -/
def later (us : Nat) : Arrival := { elapsed := us, means := zeroPowers }

/-- The command runs, and the state it leaves passes. -/
def gives (c : Instr) (s : State) (p : State → Bool) : Bool :=
  match exec c s with
  | .next t => p t
  | .fault _ => false
  | .refused _ => false

/-- The status byte of the reply frame being sent. -/
def replied (t : State) : Option Byte :=
  match t.lnk.out with
  | .free => none
  | .sending bytes _ _ => bytes[3]?

def context (p : Profile) : SessionContext :=
  { sequence := 1, account := 7, profile := p, policy := .heatFirst, phaseEntry := 0
    readyRaw := false, readyFiltered := false, rawChange := none, isocheckFailures := 0
    energised := false, endCause := none }

def energised (p : Profile) : SessionContext := { context p with energised := true }

def openRec (p : Profile) : OpenRecord :=
  { sequence := 1, account := 7, profile := p, policy := .heatFirst, billing := .account
    cap := none, generation := 0, start := { valid := true, day := 0, seconds := 0 }
    band := Vector.replicate 4 0, heaterBand := Vector.replicate 4 0, netPack := 0
    untimed := false, partial_ := false, minIso := none }

def closedRec (n : Nat) : ClosedRecord :=
  { sequence := n, account := 7, profile := .ac, policy := .heatFirst, generation := 0
    startDay := 0, startSeconds := 0, endDay := 0, endSeconds := 0, endCause := .complete
    band := Vector.replicate 4 0, heaterBand := Vector.replicate 4 0, netPack := 0, cost := 0
    untimed := false, partial_ := false, minIso := none }

def heat (src : HeatSource) : HeatRequest :=
  { target := 5, level := .h8, policy := .inletOrPack, expiry := 7200000, hasBeenOn := false
    source := src }

def warm (v : Int) : Sensor := { value := v, valid := true }

/-- IDLE at time 0, the plug in, account 7 known with no cap, the pack live at 7,400 dV. -/
def ready : State :=
  { State.startUp with
    inputs := { plug := true, lockFb := false, dccFb := false, obcRdy := false, packLive := true }
    mfe := { State.reset.mfe with packVoltage := 7400 }
    bil := { State.reset.bil with accounts := [{ id := 7, capWh := 0, billing := .account }] } }

def withTime (us : Nat) (s : State) : State := { s with time := us }

/-- An open session in this state. -/
def session (st : SeqState) (c : SessionContext) : State :=
  { ready with
    seq := { State.reset.seq with state := st, ctx := some c, lockCmd := true }
    bil := { ready.bil with counter := 1, openRec := some (openRec c.profile) } }

/-- The cold DC start of chapter 2: ENERGY, HEAT_FIRST, the heater in ON for H8, 7,600 dV, a live offer of
2,000 dA, 9,200 dV and 150,000 W, the five-point table, and every pack sensor at this temperature. -/
def dcEnergy (temp : Int) : State :=
  let s := session .energy (energised .dc)
  { s with
    inputs := { s.inputs with dccFb := true }
    mfe := { s.mfe with packVoltage := 7600 }
    seq := { s.seq with dccCmd := true, check := .passed }
    mtr := { s.mtr with gate := .opened }
    htr := { s.htr with
      request := some { heat .inlet with target := 40, hasBeenOn := true }, state := .on
      switch := true, lock := false, element := warm 25 }
    alc := { s.alc with
      sensors := Vector.replicate 4 (warm temp), inletPin := warm 25
      derate := [(-20, 0), (-10, 500), (0, 1500), (10, 3000), (45, 1000)]
      offer := { state := .live, source := .host, iOff := 2000, vOff := .upTo 9200
                 pOff := .upTo 150000, hold := some 5000 } } }

/-- The AC session of chapter 2: pilot 320 dA, phases 2,310, 2,300 and 2,320 dV, 7,600 dV of pack, 10 °C. -/
def acEnergy : State :=
  let s := session .energy (energised .ac)
  { s with
    mfe := { s.mfe with packVoltage := 7600, lineVoltage := #v[2310, 2300, 2320] }
    seq := { s.seq with obcEn := true }
    mtr := { s.mtr with gate := .opened }
    alc := { s.alc with
      sensors := Vector.replicate 4 (warm 10), inletPin := warm 25
      offer := { state := .live, source := .line, iOff := 320, vOff := .unlimited
                 pOff := .unlimited, hold := none } } }

/-- A measurement in flight. -/
def flying (slot : Slot) (sec : Section) (phase : NetPhase) (s : State) : State :=
  let m : Measurement :=
    { phase := phase, slot := slot, sec := sec, settle := 500, phaseEnd := 500, sumP := 0, sumN := 0
      count := 0, meansA := none, meansB := none }
  { s with ism := { s.ism with flight := some m } }

/-- A pack-heat run in ON since this instant. -/
def running : State :=
  { ready with
    htr := { ready.htr with
      request := some { heat .pack with hasBeenOn := true }, state := .on, level := some .l6
      switch := true, lock := false, element := warm 20
      run := some { start := 0, packEnergy := 0, heaterEnergy := 0, highest := .l6, ended := none } }
    alc := { ready.alc with sensors := Vector.replicate 4 (warm (-8)) } }

/-! ## WellFormed refuses what cannot arrive -/

/-- R197: 32 points do not fit in 96 bytes of payload, 31 do. -/
theorem test_wellFormed_derateSet :
    (Instr.derateSet (later 0) { points := List.replicate 32 (0, 0) }).wellFormed = false
      ∧ (Instr.derateSet (later 0) { points := List.replicate 31 (0, 0) }).wellFormed = true := by
  decide

/-- R197: 27 windows do not fit in 96 bytes of payload, 26 do. -/
theorem test_wellFormed_tariffLoad :
    (Instr.tariffLoad (later 0)
        { windows := List.replicate 27 (0, 0), price0 := 0, price1 := 0, price2 := 0
          price3 := 0 }).wellFormed = false
      ∧ (Instr.tariffLoad (later 0)
        { windows := List.replicate 26 (0, 0), price0 := 0, price1 := 0, price2 := 0
          price3 := 0 }).wellFormed = true := by decide

/-- The unit table of 00_scope.md: a voltage lies in 0 to 10,000 dV. -/
theorem test_wellFormed_voltages :
    (Instr.packVoltageReading (later 0) 10001).wellFormed = false
      ∧ (Instr.dcInletVoltageReading (later 0) 10001).wellFormed = false
      ∧ (Instr.acLineVoltageReading (later 0) 2 10001).wellFormed = false
      ∧ (Instr.packVoltageReading (later 0) 10000).wellFormed = true := by decide

/-! ## The manual's worked examples -/

/-- R182: the nine bytes 0x31 to 0x39 give the check 0x29B1. -/
theorem test_check_example :
    check [0x31, 0x32, 0x33, 0x34, 0x35, 0x36, 0x37, 0x38, 0x39] = 0x29B1 := by decide +kernel

/-- Section 5.1, "one RESULT": Rp 108, Rn 115, R_iso 108, figure 127. -/
theorem test_estimate_result :
    estimate resetIsm.settings 3500 4500 4300 3690 = .result 8000 7990 108 115 108 127 false := by
  decide +kernel

/-- Section 5.1, "results at the limits": the rail that does not leak, and the healthy section. -/
theorem test_estimate_limits :
    estimate resetIsm.settings 3500 4500 8000 0 = .result 8000 8000 50000 642 642 755 false
      ∧ estimate resetIsm.settings 40 7960 7960 40
        = .result 8000 8000 50000 50000 50000 58823 true := by
  decide +kernel

/-- Section 5.1: the four outcomes without a result. -/
theorem test_estimate_no_result :
    estimate resetIsm.settings 300 150 280 170 = .dead 450 450
      ∧ estimate resetIsm.settings 3500 4500 4250 3650 = .tolerance 8000 7900
      ∧ estimate resetIsm.settings 4500 3500 3500 4500 = .polarity 8000 8000
      ∧ estimate resetIsm.settings 4000 4000 4000 4000 = .polarity 8000 8000 := by decide

/-- The figures judged one after another, under warn 500 and fault 100. -/
def judged (figures : List Nat) : LevelRecord :=
  figures.foldl (fun l f => l.judge 500 100 f 0 .scan) resetLevel

/-- Chapter 5, "from warning to fault and back": WARNING after 640, 420, 380; FAULT after 90 and 85, with
85 in the latch; still FAULT, with a good run of 3, after 620, 650 and 640. -/
theorem test_level_example :
    judged [640, 420, 380]
        = { lowRun := 2, faultRun := 0, goodRun := 0, level := .warning, latch := none }
      ∧ judged [640, 420, 380, 90]
        = { lowRun := 3, faultRun := 1, goodRun := 0, level := .warning, latch := none }
      ∧ judged [640, 420, 380, 90, 85]
        = { lowRun := 4, faultRun := 2, goodRun := 0, level := .fault
            latch := some { figure := 85, instant := 0, slot := .scan } }
      ∧ judged [640, 420, 380, 90, 85, 620, 650, 640]
        = { lowRun := 0, faultRun := 0, goodRun := 3, level := .fault
            latch := some { figure := 85, instant := 0, slot := .scan } } := by decide

/-- Chapter 4, "the means of one phase": sums 16,478 and 15,446 of four samples give 4,120 and 3,862. -/
theorem test_rail_means : railMean 16478 4 = 4120 ∧ railMean 15446 4 = 3862 := by decide

/-- Section 6.4: the INLET sample and the PACK sample. -/
theorem test_energy_example :
    energyOf 1234567 10980 200017 = (610, 1421227)
      ∧ energyOf 500000 (-10500) 200000 = (-584, 2900000) := by decide

/-- Chapter 7, "bands and generations". -/
def exampleTariff : Tariff :=
  { generation := 7, windows := [(360, 1), (1020, 2), (1320, 0)], prices := #v[180, 250, 400, 0] }

def clockAt (seconds : Nat) : ClockReading := { valid := true, day := 0, seconds := seconds }

theorem test_bands_example :
    [5400, 21600, 61199, 61200, 83400].map (fun n => bandOf exampleTariff (clockAt n))
      = [0, 1, 1, 2, 0] := by decide

/-- Section 7.4, "cost at close": 3,404 under OPERATOR and 3,656 under ACCOUNT. -/
theorem test_cost_example :
    let r : OpenRecord :=
      { openRec .dc with band := #v[12400, 0, 3050, 0], heaterBand := #v[1200, 0, 0, 0] }
    let t : Tariff := { exampleTariff with prices := #v[210, 150, 345, 500] }
    { r with billing := .operator }.cost t = 3404 ∧ r.cost t = 3656 := by decide

/-- R137: day 412, 86,390 s set at 5,000,000 µs. -/
theorem test_clock_example :
    let c : Clock := { valid := true, setDay := 412, setSeconds := 86390, setInstant := 5000000 }
    c.read 14999999 = { valid := true, day := 412, seconds := 86399 }
      ∧ c.read 15000000 = { valid := true, day := 413, seconds := 0 } := by decide

/-- R38: the default table at −1, 0, 44 and 45 °C. -/
theorem test_derate_example :
    [-1, 0, 44, 45].map (lookupDerate resetAlc.derate) = [0, 1000, 1000, 0] := by decide

/-- R44: the grants of its text. -/
theorem test_grant_example :
    grant .h8 12000 = some .h8 ∧ grant .h8 11999 = some .h7 ∧ grant .h8 7499 = some .l8
      ∧ grant .h8 299 = none ∧ grant .l4 150000 = some .l4 := by decide

/-- Chapter 2, "a cold DC start": at −12 °C the heater takes H8 and nothing charges. -/
theorem test_cold_dc_start :
    let t := allocate (dcEnergy (-12))
    (t.alc.pAvail, t.alc.iAcc, t.alc.targetSet, t.alc.appliedSet) = (150000, 0, 0, 0)
      ∧ t.alc.appliedGrant = some .h8 := by decide

/-- Chapter 2: at −10 °C in a quiet window the target 500 is held, and applied when the window closes. -/
theorem test_quiet_window_holds_a_rise :
    let s := dcEnergy (-10)
    let t := allocate { s with alc := { s.alc with quiet := true } }
    (t.alc.iAcc, t.alc.targetSet, t.alc.appliedSet) = (500, 500, 0)
      ∧ (closeQuiet t).alc.appliedSet = 500 := by decide

/-- Chapter 2, "the two policies on a short offer". -/
theorem test_two_policies :
    let s := dcEnergy (-10)
    let s := { s with alc := { s.alc with offer := { s.alc.offer with iOff := 600 } } }
    let first := computeTargets s (energised .dc)
    let second := computeTargets s { energised .dc with policy := .chargeFirst }
    (first.pAvail, first.pChg, first.set, first.grant) = (45600, 33600, 442, some .h8)
      ∧ (second.pChg, second.set, second.grant) = (38000, 500, some .h5) := by decide

/-- Chapter 2, "an AC session": P_avail 20,755, and 10,377 then 5,188 after the pilot and the open sensor. -/
theorem test_ac_session :
    let t := allocate acEnergy
    (t.alc.pAvail, t.alc.appliedSet) = (20755, 273)
      ∧ gives (.pilotOfferReading (later 0) 160) acEnergy (fun t => t.alc.pAvail == 10377) = true
      ∧ (let s := { acEnergy with alc := { acEnergy.alc with
            offer := { acEnergy.alc.offer with iOff := 160 } } }
         gives (.inletPinTemperatureReading (later 0) { value := 0, marked := false }) s
           (fun t => t.alc.pAvail == 5188) = true) := by decide

/-- Chapter 6, "the meter through an AC session": the first crossing cuts 7,300 µs into 41 mWh with a
residue of 1,320,000. -/
theorem test_meter_first_crossing :
    gives (.zeroCrossing { elapsed := 7300, means := { inlet := 20400, heater := 0, pack := 0 } })
      acEnergy (fun t => t.mtr.residues.inlet == 1320000
        && (t.bil.openRec.map (·.band[0])) == some 41 && t.mtr.timing == .mains 0 7300) = true := by
  decide

/-- Chapter 6: the mains loss after 3 cycles, 110,000 µs at a mean of 11,127 W, gives 340 mWh. -/
theorem test_meter_mains_loss :
    let s : State := { acEnergy with
      mtr := { acEnergy.mtr with
        timing := .mains 3 60000, residues := { inlet := 120000, heater := 0, pack := 0 } } }
    gives (.mainsLoss { elapsed := 110000, means := { inlet := 11127, heater := 0, pack := 0 } }) s
      (fun t => t.mtr.residues.inlet == 90000 && (t.bil.openRec.map (·.band[0])) == some 340
        && t.seq.state == .release && (t.seq.ctx.bind (·.endCause)) == some .mainsLoss) = true := by
  decide

/-- Chapter 3, "levels brought into range": the five requests and their INLET grants at 8,000 W. -/
theorem test_levels_brought_into_range :
    let level (range step : Byte) : Option Level :=
      match exec (.heatRequest (later 0)
        { target := 5, levelRange := range, levelStep := step, policy := 1, duration := 120 }) ready with
      | .next t => t.htr.request.map (·.level)
      | .fault _ => none
      | .refused _ => none
    [level 0 3, level 0 12, level 1 2, level 1 7, level 0 0]
        = [some .l3, some .l8, some .l8, some .h7, some .l1]
      ∧ grant .h7 8000 = some .h5 ∧ grant .l8 (min 1800 2400) = some .l6 := by decide

/-- Chapter 3, "a pack-heat run at a cold depot": at 1,005,000 the rest elapses; the request takes the
PACK source, the result of 900 Ω/V is fresh, and HTR enters ON at L6 with a run. -/
theorem test_cold_depot_on :
    let s : State := { ready with
      time := 1002000000
      seq := { ready.seq with rest := { kind := .charge, profile := .dc, endInstant := 1000000 } }
      htr := { ready.htr with
        request := some { heat .none with expiry := 8202000 }, state := .pending, lock := false
        element := warm 0 }
      alc := { ready.alc with sensors := #v[warm (-8), warm (-5), warm (-6), warm (-7)] }
      ism := { ready.ism with heater := { ready.ism.heater with
        result := some { rp := 0, rn := 0, rIso := 765, figure := 900, isOver := false, vRef := 8500
                         instant := 605000, slot := .scan } } } }
    gives (.packHeatRestElapsed (later 3000000)) s (fun t =>
      t.htr.state == .on && t.htr.level == some .l6 && t.htr.switch
        && (t.htr.run.map (·.start)) == some 1005000) = true := by decide

/-- Chapter 1, "rests and a superseded pack-heat run": a start for AC 3,000 ms after a DC release waits
5,000 ms more. -/
theorem test_rest_between_sessions :
    let s : State := { ready with
      time := 103000000
      seq := { ready.seq with rest := { kind := .charge, profile := .dc, endInstant := 100000 } } }
    gives (.sessionStart (later 0) { accountId := 7, profile := 0, policy := 0, energyCap := 0 }) s
      (fun t => t.seq.state == .waitingRest && (t.seq.pendingStart.map (·.expiry)) == some 108000
        && t.lnk.out == .sending (frameBytes 0x92 ([0, 1] ++ putU32 5000 ++ putU32 0))
            (103000000 + 40 * 15) false) = true := by decide +kernel

/-- Chapter 1, "hold filtering in CONNECT", case B: the lock engages at 480 and the phase ends at 530. -/
theorem test_hold_filtering :
    let c := { context .ac with readyRaw := true, rawChange := some 480 }
    let s := withTime 480000 (session .connect c)
    gives (.confirmTimeExpiry (later 49999)) s (fun t => t.seq.state == .connect) = true
      ∧ gives (.confirmTimeExpiry (later 50000)) s (fun t => t.seq.state == .precharge) = true := by
  decide

/-! ## One step of each command -/

/-- PROFILE_SET with every AC field at an end of its range (R3). -/
def edgeProfile : ProfileSetReq :=
  { profile := 0, connectMin := 100, prechargeMin := 100, holdMax := 1000, holdFilter := 1
    confirmTime := 100, isocheckEnable := 0, isocheckMax := 0, matchWindow := 0, taperEnable := 1
    taperVoltage := 10000, taperStep := 990, endCurrent := 1, releaseCurrent := 5000
    releaseMax := 10000, releaseRest := 60000, maxCurrent := 2, maxPower := 1000
    obcEfficiency := 800, phaseCount := 1 }

/-- R3: the ends are taken; one beyond is RANGE and nothing changes. -/
theorem test_profileSet :
    gives (.profileSet (later 0) edgeProfile) ready (fun t =>
        replied t == some 0 && t.seq.ac.connectMin == 100 && t.seq.ac.maxCurrent == 2
          && t.seq.acOnly.phaseCount == 1) = true
      ∧ gives (.profileSet (later 0) { edgeProfile with phaseCount := 2 }) ready (fun t =>
        replied t == some 4 && t.seq == ready.seq) = true := by decide +kernel

/-- R5. -/
theorem test_seqConfig :
    gives (.seqConfig (later 0) { switchRest := 60000, turnRest := 0, contactorCheck := 50 }) ready
        (fun t => t.seq.settings == { switchRest := 60000, turnRest := 0, contactorCheck := 50 })
        = true
      ∧ gives (.seqConfig (later 0) { switchRest := 60001, turnRest := 0, contactorCheck := 50 })
        ready (fun t => replied t == some 4 && t.seq == ready.seq) = true := by decide +kernel

/-- R8: no plug is STATE. R11: with the rest elapsed the session opens as number 1 in CONNECT. -/
theorem test_sessionStart :
    gives (.sessionStart (later 0) { accountId := 7, profile := 1, policy := 0, energyCap := 0 })
        { ready with inputs := { ready.inputs with plug := false } }
        (fun t => replied t == some 3 && t.seq.state == .idle) = true
      ∧ gives (.sessionStart (later 0) { accountId := 7, profile := 1, policy := 0, energyCap := 0 })
        ready (fun t => replied t == some 0 && t.seq.state == .connect && t.seq.lockCmd
          && t.bil.counter == 1 && t.bil.openRec.isSome) = true := by decide +kernel

/-- R21, R23: a stop in CONNECT releases HOST_STOP, and with energised no ends at once. -/
theorem test_sessionStop :
    gives (.sessionStop (later 0)) (session .connect (context .ac)) (fun t =>
      replied t == some 0 && t.seq.state == .idle && !t.seq.lockCmd
        && (t.bil.queue.map (·.endCause)) == [.hostStop]) = true := by decide +kernel

/-- R27: the latch is cleared and the held lock disengaged. -/
theorem test_contactorClear :
    gives (.contactorClear (later 0))
      { ready with seq := { ready.seq with faultLatch := true, lockHeld := true, lockCmd := true } }
      (fun t => replied t == some 0 && !t.seq.faultLatch && !t.seq.lockHeld && !t.seq.lockCmd)
      = true := by decide +kernel

/-- R32: limits above their range are clamped. R33: a STALE record answers LATCHED. -/
theorem test_offer :
    let written : Offer :=
      { state := .live, source := .host, iOff := 5000, vOff := .upTo 9200, pOff := .upTo 1
        hold := some 100 }
    gives (.offer (later 0)
        { currentLimit := 5001, voltageLimit := 9200, powerLimit := 1, holdTime := 99 }) ready
        (fun t => replied t == some 1 && t.alc.offer == written) = true
      ∧ gives (.offer (later 0)
        { currentLimit := 1, voltageLimit := 0, powerLimit := 0, holdTime := 0 })
        { ready with alc := { ready.alc with offer := { emptyOffer with state := .stale } } }
        (fun t => replied t == some 8 && t.alc.offer.state == .stale) = true := by decide +kernel

/-- R39: two equal temperatures are RANGE. -/
theorem test_derateSet :
    gives (.derateSet (later 0) { points := [(5, 100), (5, 200)] }) ready
        (fun t => replied t == some 4 && t.alc.derate == ready.alc.derate) = true
      ∧ gives (.derateSet (later 0) { points := [(0xD8, 100), (100, 5000)] }) ready
        (fun t => replied t == some 0 && t.alc.derate == [(-40, 100), (100, 5000)]) = true := by
  decide +kernel

/-- HEATER_CONFIG with every field at an end of its range (R53). -/
def edgeHeater : HeaterConfigReq :=
  { packHeatMax := 300, packFloor := 1000, heatRest := 60000, checkAge := 3600, hysteresis := 5
    elementMax := 60, elementResume := 59, maxPackTemp := 60, assumedTemp := 0xD8 }

/-- R53: element_resume must be below element_max. -/
theorem test_heaterConfig :
    gives (.heaterConfig (later 0) edgeHeater) ready
        (fun t => replied t == some 0 && t.htr.settings.assumedTemp == -40) = true
      ∧ gives (.heaterConfig (later 0) { edgeHeater with elementResume := 60 }) ready
        (fun t => replied t == some 4 && t.htr.settings == ready.htr.settings) = true := by
  decide +kernel

/-- R58, R59: a cancel ends the run and opens the switch. -/
theorem test_heatCancel :
    gives (.heatCancel (later 1000)) running (fun t =>
      replied t == some 0 && t.htr.state == .idle && !t.htr.switch && t.htr.request.isNone
        && (t.htr.run.bind (·.ended)) == some (1, .cancelled)
        && t.seq.rest.kind == .packHeat) = true := by decide +kernel

/-- ISO_CONFIG at ends of its ranges, PERIODIC (R73). -/
def edgeIso : IsoConfigReq :=
  { r0 := 1000, settlePack := 5000, settleHeater := 50, settleInlet := 50, settlePackExtra := 5000
    samples := 4, tolerance := 10, vRef := 4000, scanMode := 2, firstSection := 1, lastSection := 2
    period := 600 }

/-- R73, R89: the first period expiry is 600,000 ms after the write; samples of 5 are RANGE. -/
theorem test_isoConfig :
    gives (.isoConfig (later 0) edgeIso) ready (fun t =>
        replied t == some 0 && t.ism.settings.vRef == 4000 && t.ism.scan.timer == some 600000) = true
      ∧ gives (.isoConfig (later 0) { edgeIso with samples := 5 }) ready
        (fun t => replied t == some 4 && t.ism == ready.ism) = true := by decide +kernel

/-- R91: in OFF the request is STATE; in SINGLE a HEATER request is granted at once (R85). -/
theorem test_isoMeasure :
    gives (.isoMeasure (later 0) { target := 1 }) ready (fun t => replied t == some 3) = true
      ∧ gives (.isoMeasure (later 0) { target := 1 })
        { ready with ism := { ready.ism with scan := { ready.ism.scan with mode := .single } } }
        (fun t => replied t == some 0 && (t.ism.flight.map (·.sec)) == some .heater
          && (t.ism.flight.map (·.slot)) == some .host) = true := by decide +kernel

/-- R92: a host measurement in flight is discarded. -/
theorem test_isoStop :
    gives (.isoStop (later 0)) (flying .host .pack .sampleA ready) (fun t =>
      replied t == some 0 && t.ism.flight.isNone && t.ism.pack.discarded == 1) = true := by
  decide +kernel

/-- R95: fresh is cleared for the reported section alone. -/
theorem test_isoResults :
    gives (.isoResults (later 0) { sections := 1, clearOverwrite := 0, clearCounts := 0 })
      { ready with ism := { ready.ism with
          pack := { emptyRecord with fresh := true, dead := 2 }
          heater := { emptyRecord with fresh := true } } }
      (fun t => !t.ism.pack.fresh && t.ism.heater.fresh && t.ism.pack.dead == 2) = true := by
  decide +kernel

/-- R105: fault equal to warn is RANGE. -/
theorem test_isoThresholds :
    gives (.isoThresholds (later 0) { warn := 100, fault := 99 }) ready
        (fun t => (t.ism.warn, t.ism.fault) == (100, 99)) = true
      ∧ gives (.isoThresholds (later 0) { warn := 100, fault := 100 }) ready
        (fun t => replied t == some 4 && (t.ism.warn, t.ism.fault) == (500, 100)) = true := by
  decide +kernel

/-- A FAULT level with this good run. -/
def faulted (good : Nat) : State :=
  { ready with ism := { ready.ism with packLevel :=
      { lowRun := 0, faultRun := 0, goodRun := good, level := .fault
        latch := some { figure := 85, instant := 0, slot := .scan } } } }

/-- R112: a good run of 3 is cleared, one of 2 is STATE. -/
theorem test_isoClear :
    gives (.isoClear (later 0) { section_ := 0 }) (faulted 3) (fun t =>
        replied t == some 0 && t.ism.packLevel.level == .normal && t.ism.packLevel.goodRun == 3
          && t.ism.packLevel.latch.isNone) = true
      ∧ gives (.isoClear (later 0) { section_ := 0 }) (faulted 2) (fun t =>
        replied t == some 3 && t.ism.packLevel.level == .fault) = true := by decide +kernel

/-- Sections 10.8 and 10.10: the lengths of the two large replies, with their start, length and kind. -/
theorem test_reads :
    gives (.status (later 0)) ready (fun t => match t.lnk.out with
        | .sending bytes _ _ => bytes.take 3 == [0xC3, 77, 0xE0] && bytes.length == 82
        | .free => false) = true
      ∧ gives (.meterQuery (later 0)) ready (fun t => match t.lnk.out with
        | .sending bytes _ _ => bytes.take 3 == [0xC3, 90, 0xC0]
        | .free => false) = true := by decide +kernel

/-- R138: 86,399 s is taken, 86,400 is RANGE. -/
theorem test_timeSet :
    gives (.timeSet (later 5) { day := 412, seconds := 86399 }) ready (fun t =>
        t.bil.clock == { valid := true, setDay := 412, setSeconds := 86399, setInstant := 5 }) = true
      ∧ gives (.timeSet (later 5) { day := 412, seconds := 86400 }) ready (fun t =>
        replied t == some 4 && !t.bil.clock.valid) = true := by decide +kernel

/-- R141: the account of the open session is STATE; id 0 is RANGE. -/
theorem test_accountSet :
    gives (.accountSet (later 0) { id := 7, capWh := 1, heaterBilling := 0 })
        (session .connect (context .ac)) (fun t => replied t == some 3) = true
      ∧ gives (.accountSet (later 0) { id := 0, capWh := 1, heaterBilling := 0 }) ready
        (fun t => replied t == some 4 && t.bil.accounts.length == 1) = true := by decide +kernel

/-- R142: an unknown id is NOT_FOUND; a known one not in use is removed. -/
theorem test_accountClear :
    gives (.accountClear (later 0) { id := 8 }) ready (fun t => replied t == some 11) = true
      ∧ gives (.accountClear (later 0) { id := 7 }) ready
        (fun t => replied t == some 0 && t.bil.accounts.isEmpty) = true := by decide +kernel

/-- Chapter 7, "bands and generations": a load during ENERGY is pending as the next generation, one in
IDLE is active at once. -/
theorem test_tariffLoad :
    let f : TariffLoadReq :=
      { windows := [(360, 1), (1020, 2), (1320, 0)], price0 := 180, price1 := 250, price2 := 400
        price3 := 0 }
    let with7 (s : State) : State := { s with bil := { s.bil with active := exampleTariff } }
    gives (.tariffLoad (later 0) f) (with7 acEnergy) (fun t =>
        t.bil.active.generation == 7 && (t.bil.pendingTariff.map (·.generation)) == some 8) = true
      ∧ gives (.tariffLoad (later 0) f) (with7 ready) (fun t =>
        t.bil.active == { exampleTariff with generation := 8 } && t.bil.pendingTariff.isNone)
        = true := by decide +kernel

/-- R160, R161: an empty queue is NO_RECORD; a newer number is MISMATCH; the oldest is removed. -/
theorem test_recordPeek :
    gives (.recordPeek (later 0)) ready (fun t => replied t == some 9) = true := by decide +kernel

theorem test_recordDrop :
    let s : State := { ready with bil := { ready.bil with queue := [closedRec 4, closedRec 5] } }
    gives (.recordDrop (later 0) { sequence := 5 }) s
        (fun t => replied t == some 10 && t.bil.queue.length == 2) = true
      ∧ gives (.recordDrop (later 0) { sequence := 4 }) s
        (fun t => replied t == some 0 && t.bil.queue == [closedRec 5]) = true := by decide +kernel

/-- R163: the base is written in IDLE with the queue empty. -/
theorem test_seqBaseSet :
    gives (.seqBaseSet (later 0) { base := 4294967295 }) ready
        (fun t => replied t == some 0 && t.bil.counter == 4294967295) = true
      ∧ gives (.seqBaseSet (later 0) { base := 5 }) (session .connect (context .ac))
        (fun t => replied t == some 3 && t.bil.counter == 1) = true := by decide +kernel

/-- R173: RESTARTED routed ALERT loses its owed notice and drives ALERT; kind 14 is RANGE. -/
theorem test_routeSet :
    gives (.routeSet (later 0) { kinds := 1, route := 2 }) ready
        (fun t => t.evt.alert && !(t.evt.at 0).owed && (t.evt.at 0).pending) = true
      ∧ gives (.routeSet (later 0) { kinds := 0x4000, route := 2 }) ready
        (fun t => replied t == some 4 && !t.evt.alert) = true := by decide +kernel

/-- R174: RESTARTED cleared whole. -/
theorem test_eventsClear :
    gives (.eventsClear (later 0) { kinds := 0x3FFF }) ready
      (fun t => replied t == some 0 && t.evt.at 0 == clearKind .notice) = true := by decide +kernel

/-- R193: taken in IDLE, refused with a session open. -/
theorem test_restart :
    gives (.restart (later 0)) ready (fun t => replied t == some 0 && t.lnk.restartPending) = true
      ∧ gives (.restart (later 0)) (session .connect (context .ac))
        (fun t => replied t == some 3 && !t.lnk.restartPending) = true := by decide +kernel

/-- R191: the reply counts this request, and the counts then stand at 0. -/
theorem test_linkCountsClear :
    gives (.linkCountsClear (later 0)) ready (fun t => t.lnk.counts == zeroCounts
      && (match t.lnk.out with
        | .sending bytes _ _ => (bytes.drop 3).take 3 == [0, 1, 0]
        | .free => false)) = true := by decide +kernel

/-- R179: 0xC3 begins a frame; a length of 97 is a receive error. -/
theorem test_linkRxByte :
    gives (.linkRxByte (later 0) 0xC3) ready (fun t => t.lnk.rx == .length 0) = true
      ∧ gives (.linkRxByte (later 0) 97) { ready with lnk := { ready.lnk with rx := .length 0 } }
        (fun t => t.lnk.rx == .hunt && t.lnk.counts.lengthErrors == 1) = true := by decide +kernel

/-- R180: 2,000 µs are no gap, 2,001 are. -/
theorem test_gapTimeout :
    let s : State := { ready with lnk := { ready.lnk with rx := .length 0 } }
    gives (.gapTimeout (later 2000)) s (fun t => t.lnk.rx == .length 0) = true
      ∧ gives (.gapTimeout (later 2001)) s
        (fun t => t.lnk.rx == .hunt && t.lnk.counts.gapErrors == 1) = true := by decide +kernel

/-- R188, R178: the owed RESTARTED notice is taken when a frame ends. -/
theorem test_outboundFrameSent :
    gives (.outboundFrameSent (later 40))
      { ready with lnk := { ready.lnk with out := .sending [0] 40 false } } (fun t =>
        !(t.evt.at 0).owed && t.lnk.counts.notices == 1 && (match t.lnk.out with
          | .sending bytes _ _ => bytes.take 1 == [0xC3] && bytes[2]? == some 0x70
          | .free => false)) = true := by decide +kernel

/-- R28, R195: closed contactors at a cold start set the latch with the lock held. -/
theorem test_coldStart :
    gives (.coldStart (later 0)) (dcEnergy 0) (fun t => t.seq.state == .idle && t.seq.faultLatch
      && t.seq.lockHeld && t.seq.lockCmd && !t.seq.dccCmd && t.bil.accounts.isEmpty) = true := by
  decide +kernel

/-- R14: PLUG absent in ENERGY releases UNPLUG. -/
theorem test_plugChange :
    gives (.plugChange (later 0) false) (dcEnergy 0) (fun t => t.seq.state == .release
      && (t.seq.ctx.bind (·.endCause)) == some .unplug && t.alc.appliedSet == 0) = true := by
  decide +kernel

/-- R13: in CONNECT the engaged lock is ready raw at once, ready filtered only under DIRECT. -/
theorem test_lockFbChange :
    gives (.lockFbChange (later 30000) true) (session .connect (context .ac)) (fun t =>
      (t.seq.ctx.map (·.rawChange)) == some (some 30)
        && (t.seq.ctx.map (·.readyFiltered)) == some false) = true := by decide +kernel

/-- R18: feedback in time passes the check. R14, R26: open feedback later is OPENED. -/
theorem test_dccFbChange :
    let s := dcEnergy 0
    gives (.dccFbChange (later 0) true)
        { s with inputs := { s.inputs with dccFb := false }
                 seq := { s.seq with check := .closing 0 } }
        (fun t => t.seq.check == .passed) = true
      ∧ gives (.dccFbChange (later 0) false) s (fun t => t.seq.faultLatch
        && t.seq.state == .release && (t.seq.ctx.bind (·.endCause)) == some .contactor) = true := by
  decide +kernel

/-- R17: on AC, PACK_LIVE with OBC_RDY is the ready condition of PRECHARGE. -/
theorem test_obcRdyChange :
    gives (.obcRdyChange (later 0) true) (session .precharge (context .ac))
      (fun t => (t.seq.ctx.map (·.readyRaw)) == some true) = true := by decide +kernel

/-- R14: PACK_LIVE deasserted in ENERGY releases PACK_OFF. -/
theorem test_packLiveChange :
    gives (.packLiveChange (later 0) false) acEnergy (fun t => t.seq.state == .release
      && (t.seq.ctx.bind (·.endCause)) == some .packOff) = true := by decide +kernel

/-- R19, R48: the default taper_voltage of 8,200 dV starts TAPER. -/
theorem test_packVoltageReading :
    gives (.packVoltageReading (later 0) 8199) (dcEnergy 10)
        (fun t => t.seq.state == .energy) = true
      ∧ gives (.packVoltageReading (later 0) 8200) (dcEnergy 10)
        (fun t => t.seq.state == .taper && t.alc.ceiling == some t.alc.appliedSet) = true := by
  decide +kernel

/-- RELEASE of an energised session. -/
def releasing (p : Profile) : State :=
  let s := session .release { energised p with endCause := some .hostStop }
  { s with
    inputs := { s.inputs with dccFb := p == .dc }
    seq := { s.seq with dccCmd := p == .dc, obcEn := p == .ac }
    mtr := { s.mtr with gate := .opened } }

/-- R22: at the DC release_current of 50 dA the release waits, below it the contactors open. -/
theorem test_packCurrentReading :
    gives (.packCurrentReading (later 0) 50) (releasing .dc) (fun t => t.seq.dccCmd) = true
      ∧ gives (.packCurrentReading (later 0) 49) (releasing .dc) (fun t => !t.seq.dccCmd
        && t.seq.check == .opening 150 && t.mtr.gate == .closed) = true := by decide +kernel

/-- R71, R81: below 1,000 dV an INLET measurement is discarded. -/
theorem test_dcInletVoltageReading :
    gives (.dcInletVoltageReading (later 0) 999) (flying .scan .inlet .sampleA ready)
        (fun t => t.ism.flight.isNone && t.ism.inlet.discarded == 1) = true
      ∧ gives (.dcInletVoltageReading (later 0) 1000) (flying .scan .inlet .sampleA ready)
        (fun t => t.ism.flight.isSome) = true := by decide +kernel

/-- R42: V_line is the least of the phases; the reading allocates. -/
theorem test_acLineVoltageReading :
    gives (.acLineVoltageReading (later 0) 1 2310) acEnergy
      (fun t => t.alc.pAvail == 3 * 2310 * 320 / 100 * 940 / 1000) = true := by decide +kernel

/-- R35: 101 °C is excluded and raises SENSOR_FAULT. -/
theorem test_packTemperatureReading :
    gives (.packTemperatureReading (later 0) 0 { value := 101, marked := true }) acEnergy (fun t =>
      !t.alc.sensors[0].valid
        && (t.evt.at 5).latest == some (0, .sensorFault (.pack 0) .outOfRange)) = true := by
  decide +kernel

/-- R65: 120 °C sets the lock and sends ON to PENDING; 119 °C leaves both. -/
theorem test_elementTemperatureReading :
    gives (.elementTemperatureReading (later 0) { value := 120, marked := true }) running
        (fun t => t.htr.lock && t.htr.state == .pending && !t.htr.switch) = true
      ∧ gives (.elementTemperatureReading (later 0) { value := 119, marked := true }) running
        (fun t => !t.htr.lock && t.htr.state == .on) = true := by decide +kernel

/-- Chapter 4, "the means of one phase": the fourth sample closes SAMPLE_A. -/
theorem test_railSample :
    let s := flying .heater .heater .sampleA ready
    let m : Measurement :=
      { phase := .sampleA, slot := .heater, sec := .heater, settle := 300, phaseEnd := 0
        sumP := 12359, sumN := 11584, count := 3, meansA := none, meansB := none }
    gives (.railSample (later 0) 4119 3862)
      { s with ism := { s.ism with
          settings := { s.ism.settings with samples := 4 }, flight := some m } }
      (fun t => (t.ism.flight.map (·.meansA)) == some (some (4120, 3862))
        && (t.ism.flight.map (·.phase)) == some .settleB) = true := by decide +kernel

/-- R12, R18: PRECHARGE ends at its minimum with the contactors commanded closed. -/
theorem test_phaseMinimumElapsed :
    let s := session .precharge { context .dc with readyFiltered := true }
    gives (.phaseMinimumElapsed (later 2000000)) s (fun t => t.seq.state == .energy && t.seq.dccCmd
        && t.seq.check == .closing 2150 && t.mtr.gate == .opened) = true
      ∧ gives (.phaseMinimumElapsed (later 1999999)) s
        (fun t => t.seq.state == .precharge) = true := by decide +kernel

/-- Chapter 1, "hold filtering", case D: CONNECT times out at 20,500. -/
theorem test_holdTimeout :
    gives (.holdTimeout (later 20500000)) (session .connect (context .ac)) (fun t =>
      t.seq.state == .idle && (t.bil.queue.map (·.endCause)) == [.holdTimeout]) = true := by
  decide +kernel

/-- R16: isocheck_max is 30,000 by default. -/
theorem test_isocheckTimeout :
    gives (.isocheckTimeout (later 30000000)) (session .isocheck (context .dc)) (fun t =>
      (t.bil.queue.map (·.endCause)) == [.isocheckTimeout]) = true := by decide +kernel

/-- R18, R26: the closing check out sets the latch without holding the lock. -/
theorem test_closingCheckExpiry :
    let s := dcEnergy 0
    gives (.closingCheckExpiry (later 150000)) { s with seq := { s.seq with check := .closing 150 } }
      (fun t => t.seq.faultLatch && !t.seq.lockHeld && t.seq.state == .release) = true := by
  decide +kernel

/-- R22, R26: the opening check out is a weld: the lock stays held and the session still ends. -/
theorem test_openingCheckExpiry :
    let s := releasing .dc
    gives (.openingCheckExpiry (later 150000))
      { s with seq := { s.seq with dccCmd := false, check := .opening 150 } }
      (fun t => t.seq.faultLatch && t.seq.lockHeld && t.seq.lockCmd && t.seq.state == .idle
        && t.bil.queue.length == 1) = true := by decide +kernel

/-- R22: release_max of 2,000 ms on AC disables the charger and ends the session. -/
theorem test_releaseMaxExpiry :
    gives (.releaseMaxExpiry (later 2000000)) (releasing .ac)
      (fun t => !t.seq.obcEn && t.seq.state == .idle && !t.seq.lockCmd) = true := by decide +kernel

/-- WAITING_REST until 108,000. -/
def waiting : State :=
  { ready with seq := { ready.seq with
      state := .waitingRest
      pendingStart := some { account := 7, profile := .ac, policy := .heatFirst, cap := none
                             expiry := 108000 } } }

/-- Chapter 1: at 108,000 the session opens. -/
theorem test_restExpiry :
    gives (.restExpiry (later 107999999)) waiting (fun t => t.seq.state == .waitingRest) = true
      ∧ gives (.restExpiry (later 108000000)) waiting (fun t => t.seq.state == .connect
        && t.seq.lockCmd && t.bil.counter == 1) = true := by decide +kernel

/-- R34, R14: the hold time out ends the charge. -/
theorem test_holdTimerExpiry :
    gives (.holdTimerExpiry (later 5000000)) (dcEnergy 0) (fun t => t.alc.offer.state == .stale
      && t.alc.offer.iOff == 2000 && t.seq.state == .release && t.alc.pAvail == 0) = true := by
  decide +kernel

/-- R59: the request expires at its expiry. -/
theorem test_requestExpiry :
    gives (.requestExpiry (later 7200000000)) running (fun t => t.htr.state == .idle
      && (t.htr.run.bind (·.ended)) == some (7200000, .expired)) = true := by decide +kernel

/-- R77, R78: settling of 500 ms gives way to 16 ms of sampling. -/
theorem test_settleEnd :
    gives (.settleEnd (later 500000)) (flying .scan .pack .settleA ready) (fun t =>
      (t.ism.flight.map (·.phase)) == some .sampleA
        && (t.ism.flight.map (·.phaseEnd)) == some 516) = true := by decide +kernel

/-- R89: an expiry while a pass runs is counted. -/
theorem test_periodExpiry :
    let s := flying .scan .pack .settleA ready
    gives (.periodExpiry (later 10000000))
      { s with ism := { s.ism with scan := { s.ism.scan with
          mode := .periodic, busy := true, step := some .pack, timer := some 10000 } } }
      (fun t => t.ism.scanOverrun == 1 && t.ism.scan.timer == some 20000) = true := by
  decide +kernel

/-- Section 6.4, "a band change": 11,000 W for 200,000 µs are 611 mWh with a residue of 400,000. -/
theorem test_timedIntervalEnd :
    gives (.timedIntervalEnd
        { elapsed := 200000, means := { inlet := 11000, heater := 0, pack := 0 } }) (dcEnergy 0)
      (fun t => t.mtr.residues.inlet == 400000 && (t.bil.openRec.map (·.band[0])) == some 611)
      = true := by decide +kernel

/-- R152: a net pack energy that stopped at its limit stays there; short of it the sum stops at it. -/
theorem test_total_at_its_limit :
    addI32 2147483647 (-5) = 2147483647 ∧ addI32 (-2147483648) 5 = -2147483648
      ∧ addI32 2147483646 5 = 2147483647 ∧ addI32 2147483646 (-5) = 2147483641 := by decide

/-- R195: the first frame sent after start-up is the notice for RESTARTED. -/
theorem test_reset_sends_restarted : pump State.startUp = State.reset := by decide +kernel

/-- A CONTINUOUS scan over HEATER and INLET, at INLET with HEATER skipped, while the host's INLET measurement
is in flight and HEATER has become measurable. -/
def skipping : State :=
  let s := flying .host .inlet .sampleA ready
  { s with
    mfe := { s.mfe with dcInletVoltage := 1000 }
    ism := { s.ism with scan := { s.ism.scan with
      mode := .continuous, first := .heater, last := .inlet, busy := true, step := some .inlet } } }

/-- R90: the low reading discards and skips INLET and the pass ends; an arrival that makes nothing
measurable leaves the scan idle, although HEATER is measurable, and one that makes INLET so wakes it. -/
theorem test_continuous_wakes_when_made_measurable :
    gives (.dcInletVoltageReading (later 0) 999) { skipping with
        ism := { skipping.ism with slotHost := none } } (fun t =>
      !t.ism.scan.busy && t.ism.flight.isNone && t.ism.inlet.skipped == 1
        && gives (.lockFbChange (later 0) true) t (fun u => !u.ism.scan.busy)
        && gives (.dcInletVoltageReading (later 0) 1000) t (fun u => u.ism.scan.busy
          && (u.ism.flight.map (·.sec)) == some .heater)) = true := by decide +kernel

/-! ## Witnesses: for each statement, states and operands that meet the hypotheses of each clause -/

theorem witness_ProfileSetWritesTheNamedProfile :
    slotReady ready = true ∧ slotReady (session .connect (context .ac)) = true
      ∧ 2 ≤ (2 : Byte).toNat
      ∧ (edgeProfile.profile.toNat = Profile.ac.code
        ∧ (session .connect (context .ac)).ctxProfile? = some .ac)
      ∧ (ready.ctxProfile? ≠ some .ac ∧ ¬ profileFieldsPass { edgeProfile with endCurrent := 2 } .ac)
      ∧ profileFieldsPass edgeProfile .ac
      ∧ ((1 : Byte).toNat = Profile.dc.code ∧ (session .connect (context .ac)).ctxProfile? ≠ some .dc
        ∧ profileFieldsPass { edgeProfile with isocheckMax := 1000, matchWindow := 10 } .dc) := by
  and_intros <;> first | decide | (simp only [profileFieldsPass]; decide)

theorem witness_ConfigurationIsWrittenWholeOrNotAtAll :
    slotReady ready = true ∧ slotReady running = true ∧ running.htr.state = .on
      ∧ (ready.htr.state ≠ .on ∧ ¬ heaterFieldsPass { edgeHeater with elementResume := 60 })
      ∧ heaterFieldsPass edgeHeater := by
  and_intros <;> first | decide | (simp only [heaterFieldsPass]; decide)

/-- A scan in this mode. -/
def scanning (mode : ScanMode) (s : State) : State :=
  { s with ism := { s.ism with scan := { s.ism.scan with mode := mode } } }

theorem witness_IsoConfigWritesAndBegins :
    slotReady (scanning .single ready) = true ∧ (scanning .single ready).ism.scan.mode ≠ .off
      ∧ (flying .heater .heater .settleA ready).ism.flight.isSome = true
      ∧ (ready.ism.scan.mode = .off ∧ ready.ism.flight = none
        ∧ ¬ isoFieldsPass { edgeIso with firstSection := 2, lastSection := 1 })
      ∧ isoFieldsPass edgeIso ∧ isoFieldsPass { edgeIso with scanMode := 3, lastSection := 1 } := by
  and_intros <;> first | decide | (simp only [isoFieldsPass]; decide)

theorem witness_ContactorClearInIdleWithFeedbackOpen : slotReady ready = true := by decide

theorem witness_ConfigurationAndPinsChangeOnlyByTheirCommands :
    let c : Instr := .holdTimerExpiry (later 5000000)
    (∃ t, exec c (dcEnergy 0) = .next t) ∧ (∀ a b, c ≠ .linkRxByte a b) ∧ (∀ a, c ≠ .coldStart a)
      ∧ (∀ a f, c ≠ .profileSet a f) ∧ (∀ a f, c ≠ .seqConfig a f) ∧ (∀ a f, c ≠ .derateSet a f)
      ∧ (∀ a f, c ≠ .heaterConfig a f) ∧ (∀ a f, c ≠ .isoConfig a f)
      ∧ (∀ a f, c ≠ .isoThresholds a f) ∧ (∀ a f, c ≠ .timeSet a f) ∧ (∀ a f, c ≠ .accountSet a f)
      ∧ (∀ a f, c ≠ .accountClear a f) ∧ (∀ a f, c ≠ .routeSet a f) ∧ (∀ a b, c ≠ .plugChange a b)
      ∧ (∀ a, c ≠ .isoStop a) ∧ (∀ a f, c ≠ .tariffLoad a f)
      ∧ (∀ a b, c ≠ .lockFbChange a b) ∧ (∀ a b, c ≠ .dccFbChange a b)
      ∧ (∀ a b, c ≠ .obcRdyChange a b) ∧ (∀ a b, c ≠ .packLiveChange a b)
      ∧ (∀ a v, c ≠ .packVoltageReading a v) ∧ (∀ a v, c ≠ .dcInletVoltageReading a v)
      ∧ (∀ a n v, c ≠ .acLineVoltageReading a n v) ∧ (∀ a n r, c ≠ .packTemperatureReading a n r)
      ∧ (∀ a r, c ≠ .inletPinTemperatureReading a r)
      ∧ (∀ a r, c ≠ .elementTemperatureReading a r) := by
  refine ⟨⟨_, rfl⟩, ?_⟩
  simp

theorem witness_ConfigurationAndPinsChangeOnlyByTheirCommands_offer :
    let c : Instr := .plugChange (later 0) false
    (∃ t, exec c (dcEnergy 0) = .next t) ∧ (∀ a b, c ≠ .linkRxByte a b) ∧ (∀ a, c ≠ .coldStart a)
      ∧ (∀ a f, c ≠ .offer a f) ∧ (∀ a v, c ≠ .pilotOfferReading a v)
      ∧ (∀ a, c ≠ .holdTimerExpiry a) ∧ (∀ a f, c ≠ .sessionStart a f) ∧ (∀ a, c ≠ .restExpiry a)
      ∧ (∀ a, c ≠ .outboundFrameSent a) := by
  refine ⟨⟨_, rfl⟩, ?_⟩
  simp

/-- Both latches set in RELEASE of a DC session, with a record already closed. -/
def latched : State :=
  let s := releasing .dc
  { s with
    seq := { s.seq with faultLatch := true, lockHeld := true }
    ism := { s.ism with packLevel := (faulted 3).ism.packLevel
                        heaterLevel := (faulted 0).ism.packLevel }
    bil := { s.bil with queue := [closedRec 1] } }

theorem witness_LatchesAndRecordsStandUntilTheirOwnRequest :
    let c : Instr := .releaseMaxExpiry (later 3000000)
    let d : Instr := .recordDrop (later 0) { sequence := 1 }
    (∃ t, exec c latched = .next t) ∧ (∀ a b, c ≠ .linkRxByte a b) ∧ (∀ a, c ≠ .coldStart a)
      ∧ (∀ a, c ≠ .contactorClear a) ∧ (∀ a f, c ≠ .isoClear a f) ∧ (∀ a f, c ≠ .recordDrop a f)
      ∧ (∀ a f, c ≠ .seqBaseSet a f) ∧ (∃ t, exec d latched = .next t) ∧ (∃ a f, d = .recordDrop a f)
      ∧ latched.seq.faultLatch = true ∧ latched.seq.lockHeld = true
      ∧ latched.ism.packLevel.level = .fault ∧ latched.ism.heaterLevel.level = .fault := by
  refine ⟨⟨_, rfl⟩, by simp, by simp, by simp, by simp, by simp, by simp, ⟨_, rfl⟩, ⟨_, _, rfl⟩, ?_⟩
  decide

/-- The offer STALE. -/
def stale (s : State) : State :=
  { s with alc := { s.alc with offer := { s.alc.offer with state := .stale, hold := none } } }

theorem witness_OfferWritesEmptiesOrIsLatched :
    slotReady ready = true
      ∧ (let f : OfferReq := { currentLimit := 0, voltageLimit := 0, powerLimit := 0, holdTime := 0 }
        f.currentLimit = 0 ∧ f.voltageLimit = 0 ∧ f.powerLimit = 0)
      ∧ (let f : OfferReq := { currentLimit := 0, voltageLimit := 0, powerLimit := 1, holdTime := 99 }
        ¬ (f.currentLimit = 0 ∧ f.voltageLimit = 0 ∧ f.powerLimit = 0)
          ∧ slotReady (stale ready) = true ∧ (stale ready).alc.offer.state = .stale
          ∧ ready.alc.offer.state ≠ .stale) := by decide

theorem witness_DerateSetReplacesAStepFunction :
    slotReady ready = true ∧ ¬ pointsPass [(5, 100), (5, 200)]
      ∧ pointsPass [(0xD8, 0), (100, 5000)]
      ∧ (resetAlc.derate.map (·.1)).Pairwise (· < ·)
      ∧ ((0, 1000) ∈ resetAlc.derate ∧ (0 : Int) ≤ 44
        ∧ ∀ q ∈ resetAlc.derate, q.1 ≤ 44 → q.1 ≤ 0)
      ∧ (∀ p ∈ resetAlc.derate, -1 < p.1) := by
  refine ⟨by decide, ?_, ?_, by decide⟩ <;> simp [pointsPass]

theorem witness_LineReadingsAndTheHoldTimerMoveTheOffer :
    (acEnergy.acSession = true ∧ acEnergy.alc.offer.state ≠ .stale) ∧ ready.acSession = false
      ∧ (stale acEnergy).alc.offer.state = .stale
      ∧ ((dcEnergy 0).alc.offer.hold = some 5000 ∧ 5000 ≤ ((dcEnergy 0).time + 5000000) / 1000
        ∧ (dcEnergy 0).seq.state.delivers = true ∧ (dcEnergy 0).seq.ctx = some (energised .dc)
        ∧ (energised .dc).energised = true ∧ ((dcEnergy 0).time + 4999999) / 1000 < 5000)
      ∧ (releasing .dc).seq.state.delivers = false ∧ ready.alc.offer.hold = none := by decide

theorem witness_APackTemperatureIsTakenOrExcluded :
    (let r : Reading := { value := -40, marked := true };
      r.marked = true ∧ -40 ≤ r.value ∧ r.value ≤ 100)
      ∧ (let r : Reading := { value := 101, marked := true }
        ¬ (r.marked = true ∧ -40 ≤ r.value ∧ r.value ≤ 100))
      ∧ acEnergy.alc.sensors[(0 : Fin 4)].valid = true
      ∧ ready.alc.sensors[(0 : Fin 4)].valid = false
      ∧ (∀ i : Fin 4, ready.alc.sensors[i].valid = false) := by decide

theorem witness_AHotInletPinReducesThenReleases :
    (let valid (r : Reading) : Prop := r.marked = true ∧ -40 ≤ r.value ∧ r.value ≤ 150;
      ¬ (valid { value := 151, marked := true }) ∧ valid { value := 70, marked := true }
        ∧ valid { value := 71, marked := true } ∧ valid { value := 89, marked := true }
        ∧ valid { value := 90, marked := true } ∧ valid { value := -40, marked := true }
        ∧ ¬ (valid { value := 20, marked := false }))
      ∧ acEnergy.alc.inletPin.valid = true ∧ ready.alc.inletPin.valid = false
      ∧ acEnergy.seq.ctx = some (energised .ac) ∧ ready.seq.ctx = none := by decide

/-- TAPER of the DC session, with the taper disabled or not. -/
def inTaper : State :=
  let s := dcEnergy 10
  { s with seq := { s.seq with state := .taper }, alc := { s.alc with ceiling := some 1000 } }

def noTaper : State :=
  let s := dcEnergy 10
  { s with seq := { s.seq with dc := { s.seq.dc with taperEnable := false } } }

theorem witness_APackVoltageDrivesTheTaper :
    (dcEnergy 10).seq.ctx = some (energised .dc) ∧ (dcEnergy 10).seq.state = .energy
      ∧ (dcEnergy 10).seq.dc.taperVoltage = 8200 ∧ (dcEnergy 10).seq.dc.taperEnable = true
      ∧ (noTaper.seq.ctx = some (energised .dc) ∧ noTaper.seq.state = .energy
        ∧ noTaper.seq.dc.taperVoltage = 8200 ∧ noTaper.seq.dc.taperEnable = false)
      ∧ (inTaper.seq.ctx = some (energised .dc) ∧ inTaper.seq.state = .taper
        ∧ inTaper.seq.dc.taperVoltage < 8201) := by decide

theorem witness_APackVoltageOutsideTheCharge :
    ready.seq.ctx = none
      ∧ ((releasing .dc).seq.ctx.isSome = true ∧ (releasing .dc).seq.state = .release)
      ∧ (running.seq.state = .idle
        ∧ running.htr.request = some { heat .pack with hasBeenOn := true }
        ∧ (heat .pack).source = .pack ∧ running.htr.state = .on
        ∧ 5999 < running.htr.settings.packFloor ∧ running.runActive = true) := by decide

theorem witness_TheAllocationStaysWithinEveryLimit :
    (ready.seq.ctx = none ∧ ready.htr.state ≠ .on)
      ∧ ((dcEnergy 0).seq.ctx = some (energised .dc) ∧ (dcEnergy 0).htr.state = .on
        ∧ ((dcEnergy 0).htr.request.map (·.source)) = some .inlet
        ∧ (energised .dc).policy = .heatFirst
        ∧ { energised .dc with policy := .chargeFirst }.policy = .chargeFirst
        ∧ 1000 ≤ (dcEnergy 0).mfe.packVoltage
        ∧ ¬ 9200 ≤ (dcEnergy 0).mfe.packVoltage)
      ∧ (session .connect (context .dc)).seq.state ≠ .energy
      ∧ ready.alc.offer.state ≠ .live ∧ inTaper.alc.ceiling = some 1000 ∧ (energised .dc).profile = .dc
      ∧ State.reset.mfe.packVoltage < 1000
      ∧ ((dcEnergy 0).alc.offer.vOff = .upTo 9200
        ∧ 9200 ≤ { (dcEnergy 0).mfe with packVoltage := 9200 }.packVoltage)
      ∧ ready.htr.request = none ∧ running.htr.request.isSome = true
      ∧ ready.htr.state ≠ .on
      ∧ (grant .h8 11999 = some .h7 ∧ Level.h5.code ≤ Level.h8.code ∧ Level.h5.power ≤ 11999)
      ∧ grant .h8 299 = none
      ∧ { (dcEnergy 0).alc with quiet := true }.quiet = true
      ∧ (dcEnergy 0).seq.state.delivers = true := by decide

theorem witness_TheSourcesAndRestsOfARequest :
    (heat .pack).source = .pack ∧ (heat .none).source ≠ .pack
      ∧ ready.seq.rest.kind = .none
      ∧ (let r : RestRecord := { kind := .charge, profile := .dc, endInstant := 0 }
        r.kind = .charge ∧ Profile.dc = r.profile ∧ Profile.ac ≠ r.profile)
      ∧ (let r : RestRecord := { kind := .packHeat, profile := .dc, endInstant := 0 }
        r.kind = .packHeat) := by decide

/-- A request that may take the PACK source, in this heater state, with this HEATER figure on record. -/
def asking (st : HeatState) (src : HeatSource) (figure : Option Nat) : State :=
  { ready with
    htr := { ready.htr with request := some (heat src), state := st, lock := false }
    alc := { ready.alc with sensors := Vector.replicate 4 (warm (-8)) }
    ism := { ready.ism with heater := { ready.ism.heater with
      result := figure.map fun n =>
        { rp := 0, rn := 0, rIso := n, figure := n, isOver := false, vRef := 10000, instant := 0
          slot := .scan } } } }

theorem witness_TheEvaluationPlacesTheRequest :
    let usable (s : State) (r : HeatRequest) : Prop := s.htr.lock = false
      ∧ usableSource s r ≠ .none ∧ (r.source = .none ∨ r.source = usableSource s r)
    let locked : State := { running with htr := { running.htr with lock := true } }
    let on (temp : Int) : State :=
      { running with alc := { running.alc with sensors := Vector.replicate 4 (warm temp) } }
    let r := heat .none
    let held := { heat .pack with hasBeenOn := true }
    (locked.htr.request = some held ∧ ¬ usable locked held ∧ locked.htr.state = .on)
      ∧ ((asking .pending .none none).htr.request = some r ∧ usable (asking .pending .none none) r
        ∧ demandsHeat (asking .pending .none none) r = true
        ∧ freshCheck (asking .pending .none none) = none)
      ∧ (usable (asking .satisfied .none (some 100)) r
        ∧ freshCheck (asking .satisfied .none (some 100)) = some 100
        ∧ (asking .satisfied .none (some 100)).ism.fault ≤ 100
        ∧ usableSource (asking .satisfied .none (some 100)) r = .pack
        ∧ freshCheck (asking .pending .none (some 99)) = some 99
        ∧ 99 < (asking .pending .none (some 99)).ism.fault)
      ∧ ((on 5).htr.request = some held ∧ usable (on 5) held
        ∧ demandsHeat { on 5 with htr := { (on 5).htr with state := .check } } held = false
        ∧ (on 5).htr.state = .on ∧ held.target ≤ (on 5).tMinUsed)
      ∧ ((on 4).tMinUsed < held.target ∧ (on 4).tMaxUsed < (on 4).htr.settings.maxPackTemp)
      ∧ (on 40).htr.settings.maxPackTemp ≤ (on 40).tMaxUsed
      ∧ (usableSource (dcEnergy 0) { heat .inlet with target := 40, hasBeenOn := true } = .inlet
        ∧ (dcEnergy 0).seq.ctx.isSome = true)
      ∧ (let s : State := { asking .pending .none none with
            seq := { ready.seq with rest := { kind := .charge, profile := .dc, endInstant := 0 } } }
        (s.time + 4999999) / 1000 < s.seq.rest.endInstant + requiredRest s .packHeat
          ∧ packTakeable (arrive (later 5000000) s) r = true ∧ demandsHeat s r = true
          ∧ freshCheck (arrive (later 5000000) s) = none ∧ s.htr.state = .pending
          ∧ s.htr.lock = false ∧ s.htr.request = some r ∧ r.source = .none) := by decide

theorem witness_TheDemandAndTheFreshness :
    let wanted := asking .check .pack none
    let warmed : State :=
      { asking .satisfied .pack none with
        alc := { ready.alc with sensors := Vector.replicate 4 (warm 40) } }
    (wanted.htr.request = some (heat .pack) ∧ wanted.htr.lock = false
        ∧ usableSource wanted (heat .pack) = .pack ∧ wanted.htr.state = .check
        ∧ demandsHeat wanted (heat .pack) = true)
      ∧ (warmed.htr.request = some (heat .pack) ∧ warmed.htr.lock = false
        ∧ usableSource warmed (heat .pack) = .pack ∧ warmed.htr.state = .satisfied
        ∧ demandsHeat warmed (heat .pack) = false) := by decide

theorem witness_LeavingCheckWithdrawsItsMeasurement :
    let s := flying .heater .heater .sampleA (asking .check .pack none)
    let warmed := { s with alc := { s.alc with sensors := Vector.replicate 4 (warm 5) } }
    let locked := { s with htr := { s.htr with lock := true } }
    let other := flying .host .inlet .sampleA (asking .check .pack none)
    (s.htr.request = some (heat .pack) ∧ s.htr.state = .check
        ∧ (s.ism.flight.map (·.slot)) = some .heater)
      ∧ (locked.htr.lock = true ∧ (heat .pack).expiry ≤ (s.time + 7200000000) / 1000
        ∧ slotReady s = true)
      ∧ (warmed.htr.lock = false ∧ usableSource warmed (heat .pack) = .pack
        ∧ demandsHeat warmed (heat .pack) = false)
      ∧ ((other.ism.flight.map (·.slot)) = some .host ∧ Slot.host ≠ Slot.heater)
      ∧ (let u : State := { s with htr := { s.htr with run := running.htr.run } };
        u.runActive = true ∧ u.htr.state = .check) := by decide

theorem witness_HeatRequestReplacesAndEvaluates :
    let good : HeatRequestReq :=
      { target := 40, levelRange := 1, levelStep := 5, policy := 1, duration := 600 }
    slotReady ready = true ∧ slotReady (faulted 0) = true
      ∧ 2 ≤ { good with policy := 2 }.policy.toNat
      ∧ (¬ (2 ≤ good.levelRange.toNat ∨ 2 ≤ good.policy.toNat)
        ∧ (faulted 0).ism.packLevel.level = .fault)
      ∧ ¬ (ready.ism.packLevel.level = .fault ∨ ready.ism.heaterLevel.level = .fault) := by decide

theorem witness_ARequestOrARunEndsWithItsCause :
    (slotReady ready = true ∧ ready.htr.state = .idle)
      ∧ (slotReady running = true ∧ running.htr.state ≠ .idle ∧ running.htr.request.isSome = true
        ∧ running.htr.state = .on ∧ running.runActive = true)
      ∧ ((asking .check .pack none).htr.state = .check ∧ (asking .check .pack none).runActive = false)
      ∧ (running.htr.request = some { heat .pack with hasBeenOn := true }
        ∧ (heat .pack).expiry ≤ (running.time + 7200000000) / 1000
        ∧ (running.time + 7199999999) / 1000 < (heat .pack).expiry)
      ∧ (running.htr.run = some { start := 0, packEnergy := 0, heaterEnergy := 0, highest := .l6
                                  ended := none }) := by decide

theorem witness_TheElementLockFollowsTheReading :
    (let valid (r : Reading) : Prop := r.marked = true ∧ -40 ≤ r.value ∧ r.value ≤ 150;
      ¬ (valid { value := 151, marked := true }) ∧ valid { value := 120, marked := true }
        ∧ valid { value := 89, marked := true } ∧ valid { value := 90, marked := true }
        ∧ valid { value := 119, marked := true })
      ∧ (running.htr.settings.elementMax ≤ (120 : Int) ∧ (89 : Int) < running.htr.settings.elementResume
        ∧ running.htr.settings.elementResume ≤ (90 : Int)
        ∧ (119 : Int) < running.htr.settings.elementMax)
      ∧ running.htr.element.valid = true ∧ ready.htr.element.valid = false := by decide

theorem witness_IsoMeasureStartsAndIsoStopEnds :
    slotReady ready = true ∧ 4 ≤ (4 : Byte).toNat ∧ (3 : Byte).toNat ≤ 3
      ∧ ready.ism.scan.mode ≠ .single
      ∧ ((scanning .single ready).ism.scan.mode = .single
        ∧ (scanning .single ready).ism.scan.busy = false
        ∧ (2 : Byte).toNat = Section.inlet.num ∧ (scanning .single ready).ism.slotHost = none)
      ∧ ((flying .scan .pack .sampleA ready).ism.flight.map (·.slot) = some .scan)
      ∧ ((flying .sequencer .inlet .sampleA ready).ism.flight.map (·.slot) = some .sequencer) := by
  decide

theorem witness_IsoResultsReportsThenClears :
    slotReady ready = true ∧ 8 ≤ (8 : Byte).toNat ∧ 2 ≤ (2 : Byte).toNat
      ∧ ((7 : Byte).toNat < 8 ∧ (1 : Byte).toNat ≤ 1) := by decide

theorem witness_IsoClearFollowsItsTable :
    slotReady ready = true ∧ slotReady (faulted 3) = true ∧ 2 ≤ (2 : Byte).toNat
      ∧ (0 : Byte).toNat = Section.pack.num
      ∧ ((faulted 3).ism.levelRecord? .pack = some (faulted 3).ism.packLevel
        ∧ (faulted 3).ism.packLevel.level = .fault ∧ 3 ≤ (faulted 3).ism.packLevel.goodRun)
      ∧ ((faulted 2).ism.packLevel.level = .fault ∧ (faulted 2).ism.packLevel.goodRun < 3)
      ∧ (ready.ism.levelRecord? .heater = some resetLevel ∧ resetLevel.level = .normal) := by decide

theorem witness_TheEstimateFollowsItsSteps :
    let apart (a b : Nat) : Prop := b + 50 < a ∨ a + 50 < b
    (499 < 500) ∧ ¬ (500 < 500) ∧ apart 8000 7949 ∧ ¬ apart 8000 7950
      ∧ ((4000 : Int) * 4000 - 4000 * 4000 ≤ 0)
      ∧ ((0 : Int) < 4500 * 4300 - 3500 * 3690)
      ∧ (0 * 8000 = 0 ∧ ¬ ((500 : Int) * 36000000 / (3500 * 8000) > 50000)) := by decide

theorem witness_TheLevelFollowsTheRuns :
    let l : LevelRecord := { resetLevel with goodRun := 255 }
    l.lowRun ≤ 255 ∧ l.faultRun ≤ 255 ∧ l.goodRun ≤ 255 ∧ 99 < 100 ∧ (100 ≤ 499 ∧ 499 < 500)
      ∧ (100 ≤ 500 ∧ 500 ≤ 500) := by decide

/-- The levels one LOW figure away from FAULT under a fault threshold of 200 Ω/V. -/
def nearFault (s : State) : State :=
  { s with ism := { s.ism with
      fault := 200
      packLevel := { resetLevel with faultRun := 1 }, heaterLevel := { resetLevel with faultRun := 1 } } }

theorem witness_AResultIsJudgedByItsLevel :
    let judge (s : State) := s.ism.packLevel.judge s.ism.warn s.ism.fault 127 s.nowMs .scan
    let inPrecharge := nearFault (session .precharge (context .dc))
    (Slot.scan ≠ .sequencer ∧ Slot.scan ≠ .heater)
      ∧ estimate ready.ism.settings 3500 4500 4300 3690 = .result 8000 7990 108 115 108 127 false
      ∧ ready.ism.levelRecord? .pack = some resetLevel
      ∧ (judge ready).level = resetLevel.level
      ∧ ((judge (nearFault ready)).level = .fault ∧ (nearFault ready).ism.packLevel.level ≠ .fault
        ∧ ready.seq.state = .idle)
      ∧ ((nearFault running).htr.request.isSome = true ∧ (nearFault running).htr.state = .on)
      ∧ (nearFault waiting).seq.state = .waitingRest
      ∧ ((nearFault (dcEnergy 0)).seq.ctx = some (energised .dc)
        ∧ (nearFault (dcEnergy 0)).seq.state.isOpenPhase = true)
      ∧ (inPrecharge.seq.ctx = some (context .dc) ∧ inPrecharge.seq.state.isOpenPhase = true
        ∧ inPrecharge.bil.openRec = some (openRec .dc) ∧ (context .dc).energised = false)
      ∧ estimate ready.ism.settings 300 150 280 170 = .dead 450 450 := by decide +kernel

/-- A periodic scan whose timer stands at 10,000, with a pass running or not. -/
def periodic (busy : Bool) : State :=
  { ready with ism := { ready.ism with scan := { ready.ism.scan with
      mode := .periodic, busy := busy, timer := some 10000 } } }

theorem witness_SettlingSamplingAndThePeriod :
    (let s := flying .host .pack .settleA ready;
      s.ism.flight.map (·.phase) = some .settleA ∧ s.ism.flight.map (·.phaseEnd) = some 500
        ∧ 500 ≤ (s.time + 500000) / 1000 ∧ (s.time + 499999) / 1000 < 500)
      ∧ ready.ism.flight = none
      ∧ (flying .host .pack .sampleB ready).ism.flight.map (·.phase) = some .sampleB
      ∧ (14 + 1 < ready.ism.settings.samples ∧ ready.ism.settings.samples ≤ 15 + 1)
      ∧ ((periodic true).ism.scan.timer = some 10000 ∧ (periodic true).ism.scan.busy = true
        ∧ (periodic false).ism.scan.busy = false ∧ 10000 ≤ ((periodic true).time + 10000000) / 1000
        ∧ ((periodic true).time + 9999999) / 1000 < 10000)
      ∧ ready.ism.scan.timer = none := by decide

theorem witness_AMeasurementEndsInARecordOrADiscard :
    estimate resetIsm.settings 3500 4500 4300 3690 = .result 8000 7990 108 115 108 127 false
      ∧ estimate resetIsm.settings 300 150 280 170 = .dead 450 450
      ∧ estimate resetIsm.settings 3500 4500 4250 3650 = .tolerance 8000 7900
      ∧ ready.ism.flight = none
      ∧ (let s := flying .sequencer .inlet .sampleA
            (session .isocheck { context .dc with isocheckFailures := 2 })
        s.seq.state ≠ .precharge ∧ 999 < 1000 ∧ s.ism.flight.map (·.sec) = some .inlet
          ∧ s.ism.flight.map (·.slot) = some .sequencer ∧ s.seq.state = .isocheck
          ∧ s.seq.ctx = some { context .dc with isocheckFailures := 2 })
      ∧ ((flying .scan .pack .sampleA ready).ism.flight.map (·.sec) = some .pack
        ∧ Section.pack ≠ Section.inlet ∧ 1000 ≤ 1000)
      ∧ (ready.seq.state ≠ .precharge
        ∧ (flying .scan .inlet .sampleA ready).ism.flight.map (·.sec) = some .inlet
        ∧ Slot.scan ≠ Slot.sequencer) := by decide +kernel

/-- A CONTINUOUS or SINGLE scan from PACK to INLET at this step. -/
def stepping (mode : ScanMode) (step : Section) (measured : Bool) (s : State) : State :=
  { s with ism := { s.ism with scan := { s.ism.scan with
      mode := mode, first := .pack, last := .inlet, busy := true, step := some step
      measured := measured } } }

theorem witness_TheSlotIsSettledByTheOutcome :
    let isocheck (failures : Nat) := session .isocheck { context .dc with isocheckFailures := failures }
    estimate ready.ism.settings 3500 4500 4300 3690 = .result 8000 7990 108 115 108 127 false
      ∧ (127 < (isocheck 0).ism.warn ∧ (isocheck 0).seq.state = .isocheck)
      ∧ estimate ready.ism.settings 300 150 280 170 = .dead 450 450
      ∧ ((isocheck 1).seq.ctx = some { context .dc with isocheckFailures := 1 }
        ∧ ¬ 3 ≤ 1 + 1 ∧ 3 ≤ 2 + 1)
      ∧ ready.seq.state ≠ .isocheck
      ∧ ((asking .check .pack none).htr.state = .check
        ∧ (asking .check .pack none).htr.request = some (heat .pack)
        ∧ (asking .check .pack none).ism.fault ≤ 127
        ∧ 127 < (nearFault (asking .check .pack none)).ism.fault)
      ∧ ((stepping .single .pack false ready).ism.scan.step = some .pack
        ∧ Section.pack.num < Section.inlet.num)
      ∧ ((stepping .single .inlet false ready).ism.scan.last.num ≤ Section.inlet.num
        ∧ (stepping .single .inlet false ready).ism.scan.mode ≠ .continuous
        ∧ (stepping .continuous .inlet false ready).ism.scan.mode = .continuous) := by
  decide +kernel

theorem witness_EachChangeDiscardsWhatItSpoils :
    ((flying .scan .pack .sampleA ready).ism.flight.map (·.sec)) = some .pack
      ∧ ((flying .heater .heater .sampleA ready).ism.flight.map (·.sec)) = some .heater
      ∧ ((flying .sequencer .inlet .sampleA ready).ism.flight.map (·.sec)) = some .inlet := by decide

/-- The slots filled, the inlet at 1,000 dV. -/
def slots (inSeq inHeater : Bool) (host : Option Section) : State :=
  { ready with
    mfe := { ready.mfe with dcInletVoltage := 1000 }
    ism := { ready.ism with slotSeq := inSeq, slotHeater := inHeater, slotHost := host } }

theorem witness_TheArbiterServesTheSlotsInOrder :
    let free (s : State) : Prop := s.ism.flight = none ∧ s.ism.scan.mode ≠ .continuous
    (flying .scan .pack .sampleA ready).ism.flight.isSome = true
      ∧ (free (slots true true none) ∧ (slots true true none).ism.slotSeq = true
        ∧ measurable (slots true true none) .inlet = true)
      ∧ (free (slots false true (some .pack)) ∧ (slots false true (some .pack)).ism.slotHeater = true
        ∧ measurable (slots false true (some .pack)) .heater = true)
      ∧ (free (slots false false (some .pack))
        ∧ measurable (slots false false (some .pack)) .pack = true)
      ∧ (free ready ∧ ready.ism.slotSeq = false ∧ ready.ism.slotHeater = false
        ∧ ready.ism.slotHost = none ∧ ready.ism.scan.step = none) := by decide

theorem witness_TheArbiterServesTheScan :
    let free (s : State) : Prop := s.ism.flight = none ∧ s.ism.slotSeq = false
      ∧ s.ism.slotHeater = false ∧ s.ism.slotHost = none
    let dead : State := { ready with inputs := { ready.inputs with packLive := false } }
    let idle : State := { ready with ism := { ready.ism with scan := { ready.ism.scan with
      mode := .continuous } } }
    (idle.ism.scan.mode = .continuous ∧ idle.ism.scan.busy = false
        ∧ idle.ism.scan.first.num ≤ Section.pack.num ∧ Section.pack.num ≤ idle.ism.scan.last.num
        ∧ measurable idle .pack = true ∧ measurable dead .pack = false)
      ∧ (free ready ∧ ready.ism.scan.mode ≠ .continuous ∧ ready.ism.scan.step = none)
      ∧ (free (stepping .single .pack false ready)
        ∧ (stepping .single .pack false ready).ism.scan.step = some .pack
        ∧ measurable (stepping .single .pack false ready) .pack = true)
      ∧ (free (stepping .single .pack false dead)
        ∧ measurable (stepping .single .pack false dead) .pack = false
        ∧ Section.pack.num < (stepping .single .pack false dead).ism.scan.last.num)
      ∧ (free (stepping .continuous .inlet true ready)
        ∧ (stepping .continuous .inlet true ready).ism.scan.busy = true
        ∧ measurable (stepping .continuous .inlet true ready) .inlet = false
        ∧ (stepping .continuous .inlet true ready).ism.scan.measured = true) := by decide

/-- A start of account 7 on the DC profile. -/
def start7 : SessionStartReq := { accountId := 7, profile := 1, policy := 0, energyCap := 0 }

theorem witness_SessionStartIsCheckedInOrder :
    let full : State := { ready with bil := { ready.bil with queue := List.replicate 32 (closedRec 1) } }
    let last : State := { ready with bil := { ready.bil with counter := 4294967295 } }
    let latchSet : State := { ready with seq := { ready.seq with faultLatch := true } }
    let known (s : State) : Prop := ∃ e ∈ s.bil.accounts, e.id = start7.accountId.toNat
    slotReady ready = true ∧ 2 ≤ (2 : Byte).toNat
      ∧ ¬ (2 ≤ start7.profile.toNat ∨ 2 ≤ start7.policy.toNat) ∧ State.reset.inputs.plug = false
      ∧ (latchSet.seq.state = .idle ∧ latchSet.inputs.plug = true ∧ latchSet.seq.faultLatch = true
        ∧ start7.profile.toNat = 1)
      ∧ ¬ (∃ e ∈ ready.bil.accounts, e.id = 8)
      ∧ (slotReady full = true ∧ known full ∧ freePlaces full = 0)
      ∧ (slotReady last = true ∧ known last ∧ freePlaces last ≠ 0 ∧ 4294967295 ≤ last.bil.counter) := by
  decide

theorem witness_AStartWaitsOrOpensItsSession :
    let resting : State :=
      { ready with seq := { ready.seq with
          rest := { kind := .charge, profile := .dc, endInstant := 0 } } }
    (slotReady resting = true ∧ profileOf start7.profile = some .dc
        ∧ policyOf start7.policy = some .heatFirst ∧ resting.seq.state = .idle
        ∧ resting.inputs.plug = true ∧ resting.ism.packLevel.level ≠ .fault
        ∧ resting.seq.faultLatch = false
        ∧ resting.bil.accounts.find? (fun q => q.id == start7.accountId.toNat)
          = some { id := 7, capWh := 0, billing := .account }
        ∧ freePlaces resting ≠ 0 ∧ resting.bil.counter < 4294967295 ∧ resting.runActive = false)
      ∧ (let due := resting.seq.rest.endInstant + requiredRest resting (.charge .dc)
        (resting.time + 4999999) / 1000 < due ∧ due ≤ (resting.time + 5000000) / 1000)
      ∧ (waiting.seq.state = .waitingRest ∧ waiting.seq.pendingStart.map (·.expiry) = some 108000
        ∧ 108000 ≤ (waiting.time + 108000000) / 1000 ∧ waiting.lnk.restartPending = false)
      ∧ ready.seq.pendingStart = none := by decide

theorem witness_AnAcceptedStartOverARunRestsFirst :
    let atOnce : State := { running with
      htr := { running.htr with settings := { running.htr.settings with heatRest := 0 } }
      seq := { running.seq with settings := { running.seq.settings with turnRest := 0 } } }
    (slotReady running = true ∧ profileOf start7.profile = some .dc
        ∧ policyOf start7.policy = some .heatFirst ∧ running.seq.state = .idle
        ∧ running.inputs.plug = true ∧ running.ism.packLevel.level ≠ .fault
        ∧ running.seq.faultLatch = false
        ∧ running.bil.accounts.find? (fun q => q.id == start7.accountId.toNat)
          = some { id := 7, capWh := 0, billing := .account }
        ∧ freePlaces running ≠ 0 ∧ running.bil.counter < 4294967295
        ∧ running.htr.request = some { heat .pack with hasBeenOn := true }
        ∧ running.htr.run = some { start := 0, packEnergy := 0, heaterEnergy := 0, highest := .l6
                                   ended := none })
      ∧ 0 < max running.htr.settings.heatRest running.seq.settings.turnRest
      ∧ (max atOnce.htr.settings.heatRest atOnce.seq.settings.turnRest = 0
        ∧ atOnce.htr.request = running.htr.request ∧ atOnce.htr.run = running.htr.run) := by decide

theorem witness_SessionStopEndsWhatIsOpen :
    (slotReady ready = true ∧ ready.seq.state = .idle)
      ∧ (slotReady waiting = true ∧ waiting.seq.state = .waitingRest)
      ∧ (slotReady (releasing .dc) = true ∧ (releasing .dc).seq.state = .release)
      ∧ (slotReady (dcEnergy 0) = true ∧ (dcEnergy 0).seq.state.isOpenPhase = true) := by decide

theorem witness_ACancelledStartLeavesIdle : waiting.seq.ctx = none := by decide

theorem witness_TheMovesOfAReadyPhase :
    let s := withTime 500000 (session .connect { context .ac with readyFiltered := true })
    s.seq.ctx = some { context .ac with readyFiltered := true } ∧ s.seq.state = .connect
      ∧ (context .ac).phaseEntry + s.seq.ac.connectMin ≤ s.time / 1000
      ∧ (context .ac).profile = .ac := by decide

theorem witness_ReadyConditionsAreObservedAndFiltered :
    let connect := session .connect (context .ac)
    let precharge := session .precharge (context .ac)
    let pinned := session .connect { context .ac with readyRaw := true, rawChange := some 480 }
    (connect.seq.ctx = some (context .ac) ∧ connect.inputs.lockFb ≠ true
        ∧ connect.seq.state = .connect)
      ∧ (precharge.seq.ctx = some (context .ac) ∧ precharge.seq.state ≠ .connect
        ∧ precharge.inputs.obcRdy ≠ true ∧ precharge.seq.state = .precharge
        ∧ (context .ac).profile = .ac)
      ∧ precharge.inputs.packLive ≠ false
      ∧ ((session .precharge (context .dc)).seq.state = .precharge ∧ (context .dc).profile = .dc)
      ∧ (pinned.seq.ac.holdFilter = .confirmed
        ∧ (pinned.seq.ctx.map (·.rawChange)) = some (some 480)
        ∧ 480 + pinned.seq.ac.confirmTime ≤ (pinned.time + 530000) / 1000
        ∧ (pinned.time + 529999) / 1000 < 480 + pinned.seq.ac.confirmTime)
      ∧ (context .ac).rawChange = none := by decide

theorem witness_TheMinimumEndsAReadyPhase :
    let c (p : Profile) : SessionContext := { context p with readyFiltered := true }
    (let s := session .connect (c .dc);
      s.seq.ctx = some (c .dc) ∧ s.seq.state = .connect ∧ (c .dc).readyFiltered = true
        ∧ (c .dc).phaseEntry + s.seq.dc.connectMin ≤ (s.time + 500000) / 1000
        ∧ (c .dc).profile = .dc ∧ s.seq.dc.isocheckEnable = true ∧ s.ism.flight = none
        ∧ (s.time + 499999) / 1000 < (c .dc).phaseEntry + s.seq.dc.connectMin)
      ∧ ((flying .sequencer .inlet .sampleA ready).ism.flight.map (·.sec)) = some .inlet
      ∧ (let s := session .connect (c .ac)
        s.seq.ctx = some (c .ac) ∧ (c .ac).profile = .ac
          ∧ (c .ac).phaseEntry + s.seq.ac.connectMin ≤ (s.time + 500000) / 1000)
      ∧ (let s := session .precharge (c .dc)
        s.seq.state = .precharge
          ∧ (c .dc).phaseEntry + s.seq.dc.prechargeMin ≤ (s.time + 2000000) / 1000
          ∧ s.alc.offer.state ≠ .stale ∧ (stale s).alc.offer.state = .stale
          ∧ (s.time + 1999999) / 1000 < (c .dc).phaseEntry + s.seq.dc.prechargeMin)
      ∧ (context .ac).readyFiltered = false
      ∧ ((dcEnergy 0).seq.state ≠ .connect ∧ (dcEnergy 0).seq.state ≠ .precharge) := by decide

theorem witness_ArrivalsThatEndAPhaseOrLeaveIt :
    (acEnergy.seq.ctx = some (energised .ac) ∧ acEnergy.inputs.plug = true
        ∧ acEnergy.seq.state.isOpenPhase = true ∧ acEnergy.inputs.packLive = true
        ∧ acEnergy.seq.state.delivers = true)
      ∧ (let s := session .connect (context .ac)
        s.seq.state = .connect ∧ (context .ac).phaseEntry + s.seq.ac.connectMin + s.seq.ac.holdMax
          ≤ (s.time + 20500000) / 1000
          ∧ (s.time + 20499999) / 1000
            < (context .ac).phaseEntry + s.seq.ac.connectMin + s.seq.ac.holdMax)
      ∧ (let s := session .precharge (context .ac)
        s.seq.state = .precharge ∧ (context .ac).phaseEntry + s.seq.ac.prechargeMin + s.seq.ac.holdMax
          ≤ (s.time + 21000000) / 1000
          ∧ (s.time + 20999999) / 1000
            < (context .ac).phaseEntry + s.seq.ac.prechargeMin + s.seq.ac.holdMax)
      ∧ (let s := session .isocheck (context .dc)
        s.seq.state = .isocheck
          ∧ (context .dc).phaseEntry + s.seq.dcOnly.isocheckMax ≤ (s.time + 30000000) / 1000
          ∧ (s.time + 29999999) / 1000 < (context .dc).phaseEntry + s.seq.dcOnly.isocheckMax)
      ∧ (let s : State := { dcEnergy 0 with seq := { (dcEnergy 0).seq with check := .closing 150 } }
        s.seq.ctx = some (energised .dc) ∧ s.seq.check = .closing 150
          ∧ 150 ≤ (s.time + 150000) / 1000)
      ∧ (ready.seq.state = .idle ∧ ready.inputs.packLive ≠ false ∧ ready.seq.state.delivers = false)
      ∧ (waiting.inputs.plug = true ∧ waiting.seq.state = .waitingRest ∧ waiting.runActive = false)
      ∧ (ready.seq.state ≠ .connect ∧ ready.seq.state ≠ .precharge ∧ ready.seq.state ≠ .isocheck) := by
  decide

theorem witness_TheFeedbackIsWatched :
    (let s : State := { dcEnergy 0 with
        inputs := { (dcEnergy 0).inputs with dccFb := false }
        seq := { (dcEnergy 0).seq with check := .closing 150 } };
      s.inputs.dccFb = false ∧ s.seq.check = .closing 150 ∧ (s.time + 150999) / 1000 ≤ 150)
      ∧ ((dcEnergy 0).inputs.dccFb = true ∧ (dcEnergy 0).seq.check = .passed)
      ∧ (let s : State := { releasing .dc with
            seq := { (releasing .dc).seq with dccCmd := false, check := .opening 150 } }
        s.inputs.dccFb = true ∧ s.seq.check = .opening 150 ∧ (s.time + 150999) / 1000 ≤ 150
          ∧ 150 ≤ (s.time + 150000) / 1000)
      ∧ ready.seq.check = .none := by decide

theorem witness_TheEndOfARelease :
    (releasing .dc).seq.ctx = some { energised .dc with endCause := some .hostStop }
      ∧ { energised .dc with endCause := some .hostStop }.endCause = some .hostStop
      ∧ (releasing .dc).bil.openRec = some (openRec .dc) := by decide

theorem witness_ReleaseWaitsOrEndsAtOnce :
    ((dcEnergy 0).seq.ctx = some (energised .dc) ∧ (dcEnergy 0).runActive = false
        ∧ (energised .dc).energised = true)
      ∧ (let s := session .connect (context .ac)
        s.seq.ctx = some (context .ac) ∧ s.runActive = false ∧ (context .ac).energised = false
          ∧ s.bil.openRec = some (openRec .ac))
      ∧ (let s := flying .sequencer .inlet .sampleA (session .isocheck (context .dc))
        s.seq.ctx = some (context .dc) ∧ s.runActive = false ∧ s.seq.state = .isocheck
          ∧ s.ism.flight.map (·.slot) = some .sequencer)
      ∧ (session .isocheck (context .dc)).ism.flight = none := by decide

theorem witness_TheReleaseOpensThePowerPath :
    let c (p : Profile) : SessionContext := { energised p with endCause := some .hostStop }
    ((releasing .dc).seq.ctx = some (c .dc) ∧ (releasing .dc).seq.state = .release
        ∧ (c .dc).energised = true ∧ ∀ due, (releasing .dc).seq.check ≠ .opening due)
      ∧ ((49 : Int) < (releasing .dc).seq.dc.releaseCurrent
        ∧ ((releasing .dc).seq.dc.releaseCurrent : Int) ≤ 50)
      ∧ ((c .dc).profile = .dc ∧ (releasing .dc).inputs.dccFb = true)
      ∧ { (releasing .dc).inputs with dccFb := false }.dccFb = false
      ∧ ((releasing .ac).seq.ctx = some (c .ac) ∧ (c .ac).profile = .ac)
      ∧ ((c .ac).phaseEntry + (releasing .ac).seq.ac.releaseMax
          ≤ ((releasing .ac).time + 2000000) / 1000)
      ∧ (dcEnergy 0).seq.state ≠ .release := by
  refine ⟨⟨by decide, by decide, by decide, ?_⟩, by decide⟩
  intro due h
  cases h

theorem witness_NoEnergyIsLost :
    ((0 : Int) ≤ 0)
      ∧ ((withTime 1 (dcEnergy 0)).mtr.gate = .opened
        ∧ (withTime 1 (dcEnergy 0)).bil.openRec = some (openRec .dc)
        ∧ (withTime 1 (dcEnergy 0)).mtr.intervalStart < (withTime 1 (dcEnergy 0)).time)
      ∧ ready.time ≤ ready.mtr.intervalStart
      ∧ ((withTime 1 running).mtr.intervalStart < (withTime 1 running).time
        ∧ (withTime 1 running).mtr.gate = .closed
        ∧ (withTime 1 running).htr.run = some { start := 0, packEnergy := 0, heaterEnergy := 0
                                                highest := .l6, ended := none })
      ∧ ((withTime 1 ready).mtr.gate = .closed ∧ (withTime 1 ready).runActive = false) := by decide

theorem witness_TheMeansAndTheTotals :
    ((-2147483648 : Int) < 2147483646 ∧ (2147483646 : Int) < 2147483647)
      ∧ (2147483647 : Int) ≤ 2147483647 := by decide

theorem witness_ATimedIntervalIsBilledToTheSession :
    (dcEnergy 0).mtr.timing = .timed
      ∧ (dcEnergy 0).mtr.intervalStart + 200000 ≤ (dcEnergy 0).time + 200000
      ∧ (dcEnergy 0).mtr.gate = .opened ∧ (dcEnergy 0).bil.openRec = some (openRec .dc) := by decide

theorem witness_ATimedIntervalOutsideTheSession :
    let due (us : Nat) (s : State) : Prop :=
      s.mtr.timing = .timed ∧ s.mtr.intervalStart + 200000 ≤ s.time + us
    (¬ due 199999 ready ∧ due 200000 ready ∧ ready.mtr.gate = .closed ∧ ready.runActive = false
        ∧ ready.seq.state.delivers = false)
      ∧ (due 200000 running ∧ running.mtr.gate = .closed
        ∧ running.htr.run.map (·.ended) = some none)
      ∧ { (dcEnergy 0).mtr with timing := .mains 0 0 }.timing ≠ .timed := by decide

theorem witness_TheCapTestReleasesAtTheLimit :
    let q (energy : Nat) : OpenRecord :=
      { openRec .dc with cap := some 3, band := #v[energy, 0, 0, 0] }
    let s (energy : Nat) : State :=
      { dcEnergy 0 with bil := { (dcEnergy 0).bil with openRec := some (q energy) } }
    ((s 3000).bil.openRec = some (q 3000) ∧ 3 * 1000 ≤ (q 3000).band[0] ∧ (s 3000).seq.state = .energy)
      ∧ ((s 2999).bil.openRec = some (q 2999) ∧ (q 2999).band[0] < 3 * 1000)
      ∧ ((releasing .dc).seq.state ≠ .energy ∧ (releasing .dc).seq.state ≠ .taper) := by decide

/-- The AC session with mains timing. -/
def mains (cycles last : Nat) : State :=
  { acEnergy with mtr := { acEnergy.mtr with timing := .mains cycles last } }

theorem witness_MainsTimingFollowsTheCrossings :
    ready.mtr.gate = .closed ∧ (dcEnergy 0).acSession = false
      ∧ (acEnergy.mtr.gate = .opened ∧ acEnergy.acSession = true ∧ acEnergy.mtr.timing = .timed)
      ∧ ((mains 8 5).mtr.timing = .mains 8 5 ∧ 8 < 9)
      ∧ ((mains 9 5).mtr.timing = .mains 9 5 ∧ 9 ≤ 9)
      ∧ ((mains 3 5).mtr.gate = .opened ∧ 5 + 50000 ≤ (mains 3 5).time + 50005
        ∧ (mains 3 5).time + 50004 < 5 + 50000) := by decide

theorem witness_TheClockIsSetAndAdvances : slotReady ready = true := by decide

theorem witness_AccountsAreAddedReplacedAndRemoved :
    let full : State := { ready with bil := { ready.bil with
      accounts := (List.range 16).map fun n => { id := n + 1, capWh := 0, billing := .account } } }
    let good (id : Nat) : AccountSetReq :=
      { id := BitVec.ofNat 32 id, capWh := 1000000, heaterBilling := 1 }
    let fails (f : AccountSetReq) : Prop :=
      f.id.toNat = 0 ∨ 1000000 < f.capWh.toNat ∨ 2 ≤ f.heaterBilling.toNat
    slotReady ready = true ∧ slotReady full = true ∧ fails { good 7 with capWh := 1000001 }
      ∧ (slotReady (session .connect (context .ac)) = true ∧ ¬ fails (good 7)
        ∧ (session .connect (context .ac)).seq.ctx = some (context .ac)
        ∧ (context .ac).account = (good 7).id.toNat)
      ∧ ¬ (∃ e ∈ full.bil.accounts, e.id = (good 17).id.toNat) ∧ 16 ≤ full.bil.accounts.length
      ∧ (∃ e ∈ full.bil.accounts, e.id = (good 16).id.toNat)
      ∧ (ready.seq.ctx = none ∧ ready.seq.pendingStart = none ∧ ready.bil.accounts.length < 16
        ∧ ∃ e ∈ ready.bil.accounts, e.id = (good 7).id.toNat) := by decide

/-- TARIFF_LOAD at the ends of its ranges (R146). -/
def edgeTariff : TariffLoadReq :=
  { windows := [(0, 3), (1439, 0)], price0 := 999999, price1 := 0, price2 := 0, price3 := 0 }

theorem witness_TariffLoadPlacesTheTable :
    ¬ tariffPass { edgeTariff with price3 := 1000000 } ∧ tariffPass edgeTariff
      ∧ slotReady ready = true ∧ (slotReady acEnergy = true ∧ acEnergy.seq.ctx.isSome = true)
      ∧ (ready.seq.ctx = none ∧ ready.seq.pendingStart = none) := by
  refine ⟨?_, ?_, by decide⟩ <;> simp [tariffPass, edgeTariff]

theorem witness_TheBandAndTheCostOfARecord :
    (exampleTariff.windows.map (·.1)).Pairwise (· < ·)
      ∧ { clockAt 0 with valid := false }.valid = false
      ∧ ((1020, 2) ∈ exampleTariff.windows ∧ 1020 ≤ (clockAt 61200).seconds / 60
        ∧ ∀ v ∈ exampleTariff.windows, v.1 ≤ (clockAt 61200).seconds / 60 → v.1 ≤ 1020)
      ∧ (exampleTariff.windows.getLast? = some (1320, 0)
        ∧ ∀ v ∈ exampleTariff.windows, (clockAt 21599).seconds / 60 < v.1)
      ∧ (3404250 + 500 < 4294967296000)
      ∧ 4294967296000 ≤ 4294967295 * 999999 + 500 := by decide

theorem witness_RecordDropAndSeqBaseSet :
    let s : State := { ready with bil := { ready.bil with queue := [closedRec 4, closedRec 5] } }
    (slotReady ready = true ∧ ready.bil.queue = [] ∧ ready.seq.state = .idle)
      ∧ (slotReady s = true ∧ s.bil.queue = closedRec 4 :: [closedRec 5]
        ∧ (5 : Word).toNat ≠ (closedRec 4).sequence ∧ (4 : Word).toNat = (closedRec 4).sequence)
      ∧ s.bil.queue ≠ [] := by decide

theorem witness_RoutesAndClearsTouchTheNamedKinds :
    slotReady ready = true ∧ 2 ^ 14 ≤ (0x4000 : Half).toNat ∧ 4 ≤ (4 : Byte).toNat
      ∧ ((0x3FFF : Half).toNat < 2 ^ 14 ∧ routeOf 3 = some .both) := by decide

theorem witness_StepTakesTheFrontCommand :
    { ready with pending := [.status (later 0)] }.pending = .status (later 0) :: [] := by decide

theorem witness_EveryWellFormedPayloadReadsBack :
    (Request.derateSet { points := List.replicate 31 (0x80, 0xFFFF) }).wellFormed = true
      ∧ Request.status.wellFormed = true := by decide

/-- A frame is being sent, so nothing is taken. -/
def busyLine : State := { ready with lnk := { ready.lnk with out := .sending [0xC3] 1000000 false } }

theorem witness_BytesActAsTheRequest :
    Request.heatCancel.wellFormed = true ∧ busyLine.lnk.rx = .hunt ∧ pump busyLine = busyLine
      ∧ (later 2000).elapsed ≤ 2000 := by decide

theorem witness_RequestsBeyondTheFirst :
    let held : State := { busyLine with lnk := { busyLine.lnk with
      slot := some { kind := 0x60, reply := [0] } } }
    let owed : State := { held with lnk := { held.lnk with owedBusy := some 0x61 } }
    (held.lnk.owedBusy = none ∧ held.lnk.slot.isSome = true)
      ∧ { busyLine.lnk with restartPending := true }.restartPending = true
      ∧ owed.lnk.owedBusy.isSome = true := by decide

/-- The assembler in this state. -/
def receiving (rx : Assembler) : State := { ready with lnk := { ready.lnk with rx := rx } }

theorem witness_TheReceiveAssemblerFollowsItsTable :
    ((receiving (.length 0)).lnk.rx.last? = some 0
        ∧ (receiving (.length 0)).time + 2000 ≤ 0 + 2000 ∧ (96 : Byte).toNat ≤ 96
        ∧ 96 < (97 : Byte).toNat)
      ∧ (receiving .hunt).lnk.rx = .hunt
      ∧ (receiving (.kind 0 0)).lnk.rx = .kind 0 0
      ∧ (receiving (.kind 0 96)).lnk.rx = .kind 0 (95 + 1)
      ∧ ((receiving (.payload 0 2 0x33 [])).lnk.rx = .payload 0 2 0x33 []
        ∧ ([] : List Byte).length + 1 < 2 ∧ 1 ≤ ([] : List Byte).length + 1)
      ∧ (receiving (.checkLow 0 0x60 [])).lnk.rx = .checkLow 0 0x60 []
      ∧ ((receiving (.checkHigh 0 0x60 [] 0)).lnk.rx = .checkHigh 0 0x60 [] 0
        ∧ (receiving (.checkHigh 0 0x60 [] 0)).time + 0 ≤ 0 + 2000)
      ∧ (let w := check (byteOf 0 :: (0x60 : Byte) :: [])
        (w.extractLsb' 8 8 : Byte) ++ (w.extractLsb' 0 8 : Byte) = w
          ∧ (0 : Byte) ++ (0 : Byte) ≠ w)
      ∧ ((receiving (.length 0)).lnk.rx.last? = some 0
        ∧ 0 + 2000 < (receiving (.length 0)).time + 2001
        ∧ (receiving (.length 0)).time + 2000 ≤ 0 + 2000) := by decide +kernel

/-- The last byte of a frame of this kind and payload, whose check matches. -/
def lastByte (k : Byte) (p : List Byte) : Byte := (check (byteOf p.length :: k :: p)).extractLsb' 8 8

/-- The part 2,000 µs before that byte, its slot empty. -/
def awaiting (k : Byte) (p : List Byte) : State :=
  { ready with lnk := { startLnk with
      rx := .checkHigh 0 k p ((check (byteOf p.length :: k :: p)).extractLsb' 0 8) } }

/-- R183, R197: the notice kind is UNKNOWN; a STATUS of 1 byte, a DERATE_SET of no byte and one of 40 points are
LENGTH; a DERATE_SET of count 0 passes LNK, and ALC answers RANGE. -/
theorem test_no_request :
    gives (.linkRxByte (later 2000) (lastByte 0x70 [])) (awaiting 0x70 [])
        (fun t => replied t == some 6) = true
      ∧ gives (.linkRxByte (later 2000) (lastByte 0x60 [0])) (awaiting 0x60 [0])
        (fun t => replied t == some 5) = true
      ∧ gives (.linkRxByte (later 2000) (lastByte 0x21 [])) (awaiting 0x21 [])
        (fun t => replied t == some 5) = true
      ∧ gives (.linkRxByte (later 2000) (lastByte 0x21 [40])) (awaiting 0x21 [40])
        (fun t => replied t == some 5) = true
      ∧ gives (.linkRxByte (later 2000) (lastByte 0x21 [0])) (awaiting 0x21 [0])
        (fun t => replied t == some 4) = true := by decide +kernel

theorem witness_LnkAnswersWhatIsNoRequest :
    slotReady (awaiting 0x70 []) = true ∧ (awaiting 0x70 []).time + 2000 ≤ 0 + 2000
      ∧ (∀ q ∈ ([(0x70, []), (0x60, [0]), (0x60, [])] : List (Byte × List Byte)),
        lastByte q.1 q.2 ++ ((check (byteOf q.2.length :: q.1 :: q.2)).extractLsb' 0 8 : Byte)
          = check (byteOf q.2.length :: q.1 :: q.2))
      ∧ (0x70 : Byte).toNat = 112 ∧ ([0, 0, 0, 0, 0, 0] : List Byte).length = 6 := by decide +kernel

theorem witness_TheOutboundSideTakesInOrder :
    let sent : State := { ready with lnk := { ready.lnk with out := .sending [0] 40 false } }
    let quiet : State := { sent with evt := { kinds := Vector.replicate 14 (clearKind .none) } }
    (sent.lnk.out = .sending [0] 40 false ∧ 40 ≤ sent.time + 40)
      ∧ { sent.lnk with slot := some { kind := 0x60, reply := [0] } }.slot
        = some { kind := 0x60, reply := [0] }
      ∧ (sent.lnk.slot = none ∧ { sent.lnk with owedBusy := some 0x61 }.owedBusy = some 0x61)
      ∧ (sent.lnk.owedBusy = none ∧ (sent.evt.at 0).owed = true
        ∧ ∀ j : Fin 14, j < 0 → (sent.evt.at j).owed = false)
      ∧ (∀ j : Fin 14, (quiet.evt.at j).owed = false) := by decide

theorem witness_AFreeSideTakesAtOnce :
    let free : State := { ready with lnk := { ready.lnk with out := .free } }
    let replying : State := { free with lnk := { free.lnk with
      slot := some { kind := 0x60, reply := [0] } } }
    let owing : State := { free with lnk := { free.lnk with owedBusy := some 0x61 } }
    let quiet : State := { free with evt := { kinds := Vector.replicate 14 (clearKind .none) } }
    busyLine.lnk.out ≠ .free
      ∧ (replying.lnk.out = .free ∧ replying.lnk.slot = some { kind := 0x60, reply := [0] })
      ∧ (owing.lnk.out = .free ∧ owing.lnk.slot = none ∧ owing.lnk.owedBusy = some 0x61)
      ∧ (free.lnk.out = .free ∧ free.lnk.slot = none ∧ free.lnk.owedBusy = none
        ∧ (free.evt.at 0).owed = true ∧ ∀ j : Fin 14, j < 0 → (free.evt.at j).owed = false)
      ∧ (quiet.lnk.slot = none ∧ quiet.lnk.owedBusy = none
        ∧ ∀ j : Fin 14, (quiet.evt.at j).owed = false) := by decide

/-- R165: one occurrence of each of the fourteen kinds, in kind-number order. -/
def occurrences : List EventData :=
  [.restarted true, .contactorFault .weld true, .isoLevel .pack .fault .normal none,
    .mainsLoss 3 60000, .offerStale .host 2000 (.upTo 9200) .unlimited,
    .sensorFault (.pack 3) .outOfRange, .linkError .gap, .sessionPhase .release (some .cap),
    .heatState .idle .none none (some .element) (some ⟨5, -1, 1, .h8, some (9, .element)⟩),
    .isoResult .inlet .sequencer (.dead 1 2), .isoOverwrite .heater, .sessionEnd 1 .cap,
    .recordReady 1 1, .queueLow 4]

theorem witness_TheNoticeCarriesItsData :
    occurrences.all (fun d => ((ready.evt.raise 7 d).at d.kind.num).latest == some (7, d)) = true := by
  decide +kernel

/-- Section 10.8: the lengths of the fourteen kinds' data, 19 bytes the longest. -/
theorem test_noticeDataLengths :
    occurrences.map (fun d => d.bytes.length) = [1, 2, 7, 5, 9, 2, 1, 2, 19, 19, 1, 5, 5, 1] := by
  decide +kernel

theorem witness_ReadsReportAndChangeNothing :
    let s : State := { ready with bil := { ready.bil with queue := [closedRec 4] } }
    (slotReady ready = true ∧ ready.bil.queue = [])
      ∧ (slotReady s = true ∧ s.bil.queue = closedRec 4 :: []) := by decide

theorem witness_ARestartIsTakenAndTakesEffect :
    let sent : State := { waiting with
      lnk := { waiting.lnk with restartPending := true, out := .sending [0] 40 true } }
    (slotReady ready = true ∧ ready.seq.state = .idle)
      ∧ (slotReady waiting = true ∧ waiting.seq.state = .waitingRest)
      ∧ (slotReady acEnergy = true ∧ acEnergy.seq.state ≠ .idle ∧ acEnergy.seq.state ≠ .waitingRest)
      ∧ (sent.lnk.out = .sending [0] 40 true ∧ 40 ≤ sent.time + 40 ∧ sent.ism.scan.mode = .off) := by
  decide

theorem witness_TheColdStartResetsEveryBlock :
    State.startUp.inputs = State.reset.inputs ∧ State.startUp.pending = [] := by decide

/-- The session of chapter 2, with a command waiting that ends it. -/
def unplugged : State := { dcEnergy 0 with pending := [.plugChange (later 0) false] }

theorem witness_EveryStepKeepsTheRecordsAndCounts :
    (EvtOk unplugged ∧ ResiduesOk unplugged ∧ CountsOk unplugged)
      ∧ ∃ t, step unplugged = .next t := by
  refine ⟨?_, _, rfl⟩
  simp only [EvtOk, KindRecord.ok, ResiduesOk, CountsOk]
  decide

theorem witness_EveryStepKeepsTheLevelsAndResults :
    let q : StoredResult :=
      { rp := 108, rn := 115, rIso := 108, figure := 127, isOver := false, vRef := 8500
        instant := 0, slot := .scan }
    let s : State := { faulted 3 with
      ism := { (faulted 3).ism with pack := { emptyRecord with result := some q } }
      pending := [.isoClear (later 0) { section_ := 0 }] }
    (LevelOk s ∧ ResultsOk s ∧ FlightOk s) ∧ ∃ t, step s = .next t := by
  refine ⟨⟨?_, ?_, ?_⟩, _, rfl⟩
  · simp only [LevelOk, LevelRecord.ok]; decide
  · refine ⟨?_, ?_, ?_⟩
    · intro q h; cases h; decide
    · intro q h; cases h
    · intro q h; cases h
  · intro m h; cases h

theorem witness_EveryStepKeepsTheSession :
    (SessionOk unplugged ∧ ContactorsOk unplugged ∧ QueueOk unplugged)
      ∧ ∃ t, step unplugged = .next t := by
  refine ⟨⟨?_, ⟨?_, ?_⟩, ?_⟩, _, rfl⟩
  · simp only [SessionOk]; decide
  · decide
  · intro _
    refine ⟨by decide, ⟨energised .dc, by decide⟩, ?_⟩
    intro due h
    cases h
  · simp only [QueueOk]; decide

/-- A SESSION_START at the front of the queue while a pack-heat run is active. -/
def superseded : State :=
  { running with pending := [.sessionStart (later 0)
      { accountId := 7, profile := 0, policy := 0, energyCap := 0 }] }

theorem witness_EveryStepKeepsTheHeaterAndTheAllocation :
    ((AppliedOk unplugged ∧ HeaterOk unplugged) ∧ ∃ t, step unplugged = .next t)
      ∧ (AppliedOk superseded ∧ HeaterOk superseded) ∧ superseded.runActive = true
      ∧ ∃ t, step superseded = .next t := by
  refine ⟨⟨?_, _, rfl⟩, ⟨?_, ?_, ?_, ?_, ?_⟩, ?_, _, rfl⟩
  · simp only [AppliedOk, HeaterOk]; decide
  · simp only [AppliedOk]; decide
  · decide
  · decide
  · decide
  · exact fun _ => ⟨_, rfl, rfl⟩
  · decide

end Sys2Proof.Tests
end

section
/-! PROOFS. What HTR's operations leave of its block, each said as one equation on `Htr.core`; the places
an evaluation can put a standing request; and the statements of the battery heating family on the
evaluation (R60 to R64), HEAT_REQUEST (R56, R57) and the element lock (R65). -/
namespace Sys2Proof.Machine
open Sys2Proof

variable (s : State)

/-! ## HTR's block without its level and its run

A discard of a PACK measurement applies held levels (R50), so the opening and closing of the switch and the
withdrawals can change the applied level and the run record; of HTR's block they change nothing else. -/

/-- HTR's block with the applied level and the run record left out. -/
def Htr.core (h : Htr) : Htr := { h with level := none, run := none }

@[simp] theorem setPackLevel_core (l : Option Level) : (setPackLevel l s).htr.core = s.htr.core := rfl

@[simp] theorem followPack_core : (followPack s).htr.core = s.htr.core := by
  unfold followPack
  split
  · split
    · exact setPackLevel_core _ _
    · rfl
  · rfl

@[simp] theorem followGrant_core : (followGrant s).htr.core = s.htr.core := by
  unfold followGrant
  split <;> rfl

@[simp] theorem allocate_core : (allocate s).htr.core = s.htr.core := by
  unfold allocate
  split
  · rfl
  · simp

@[simp] theorem closeQuiet_core : (closeQuiet s).htr.core = s.htr.core := by
  simp [closeQuiet]

@[simp] theorem discard_core : (discard s).htr.core = s.htr.core := by
  unfold discard
  cases s.ism.flight with
  | none => rfl
  | some m =>
    obtain ⟨_, _, sec, _, _, _, _, _, _, _⟩ := m
    cases sec <;> simp

@[simp] theorem switchTopology_core : (switchTopology s).htr.core = s.htr.core := by
  unfold switchTopology topologyChange
  split
  · rfl
  · split <;> simp

@[simp] theorem withdrawHeater_core : (withdrawHeater s).htr.core = s.htr.core := by
  unfold withdrawHeater
  split <;> simp

@[simp] theorem cutForRun_core : (cutForRun s).htr.core = s.htr.core := by
  unfold cutForRun closeInterval accumulate
  split
  · rfl
  · dsimp only
    split <;> simp [accumulateRun, Htr.core]

@[simp] theorem endRun_core (cause : HeatEnd) : (endRun cause s).htr.core = s.htr.core := by
  unfold endRun
  split
  · exact cutForRun_core s
  · rfl

@[simp] theorem startRun_core (l : Level) : (startRun l s).htr.core = s.htr.core :=
  cutForRun_core s

/-- R52: whether or not the switch was closed, it is open afterwards. -/
theorem openSwitch_core : (openSwitch s).htr.core = { s.htr.core with switch := false } := by
  unfold openSwitch
  split
  · rw [switchTopology_core]; rfl
  · next h => simp [Htr.core, h]

/-- R63: whether or not the switch was open, it is closed afterwards. -/
theorem closeSwitch_core : (closeSwitch s).htr.core = { s.htr.core with switch := true } := by
  unfold closeSwitch
  split
  · next h => simp [Htr.core, h]
  · rw [switchTopology_core]; rfl

/-- What ON holds beside its source is the switch; the request that CHECK holds stands in ISM. -/
theorem giveUp_core : (giveUp s).htr.core
    = { s.htr.core with switch := if s.htr.state = .on then false else s.htr.switch } := by
  unfold giveUp
  cases h : s.htr.state with
  | on => simp [openSwitch_core]
  | check => exact withdrawHeater_core s
  | idle | pending | satisfied => simp [Htr.core]

theorem enterHeat_core (st : HeatState) (source : HeatSource) (run : Option RunRecord) :
    (enterHeat st source run s).htr.core
      = { s.htr.core with
          state := st, request := s.htr.request.map fun r => { r with source := source } } := by
  simp only [enterHeat, raise_htr, allocate_core]
  rfl

theorem toPending_core (cause : HeatEnd) : (toPending cause s).htr.core
    = { s.htr.core with
        state := .pending
        request := s.htr.request.map fun r => { r with source := .none }
        switch := if s.htr.state = .on then false else s.htr.switch } := by
  have e : (endRun cause (giveUp s)).htr.core = _ := (endRun_core _ cause).trans (giveUp_core s)
  have hreq : (endRun cause (giveUp s)).htr.request = s.htr.request := (congrArg Htr.request e :)
  rw [toPending, enterHeat_core, e, hreq]

/-- R59: the end of a standing request leaves HTR in IDLE without one. -/
theorem endRequest_core (cause : HeatEnd) {r : HeatRequest} (h : s.htr.request = some r) :
    (endRequest cause s).htr.core
      = { s.htr.core with
          state := .idle, request := none
          switch := if s.htr.state = .on then false else s.htr.switch } := by
  have e : (endRun cause (giveUp s)).htr.core = _ := (endRun_core _ cause).trans (giveUp_core s)
  simp only [endRequest, h, raise_htr, allocate_core]
  exact congrArg (fun k : Htr => { k with state := .idle, request := none }) e

/-! ## The applied level -/

/-- R45: when the heater counts. -/
theorem heaterCounts_iff : heaterCounts s = true ↔
    s.htr.state = .on ∧ ∃ r, s.htr.request = some r ∧ r.source = .inlet := by
  unfold heaterCounts
  split
  · next r hst hr => simp [hst, hr]
  · next h =>
    refine ⟨fun h' => absurd h' (by decide), ?_⟩
    rintro ⟨hst, r, hr, -⟩
    exact absurd hr (h r hst)

/-- R63: an allocation leaves HTR's block alone unless HTR is in ON with the source INLET. -/
theorem allocate_htr_of_not_counts {s : State} (h : heaterCounts s = false) :
    (allocate s).htr = s.htr := by
  unfold allocate
  split
  · rfl
  · unfold followGrant
    split
    · next h' => exact absurd (h'.symm.trans h) (by decide)
    · rfl

/-- R63: in ON with the source INLET an allocation of an open session applies the level it grants. -/
theorem allocate_level_of_counts {s : State} (h : heaterCounts s = true)
    (hctx : s.seq.ctx.isSome = true) : (allocate s).htr.level = (allocate s).alc.appliedGrant := by
  obtain ⟨c, hc⟩ := Option.isSome_iff_exists.1 hctx
  have h' (a : Alc) : heaterCounts (s.withAlc a) = true := h
  simp [allocate, hc, followGrant, h']

/-- R52: outside ON the applied level is NONE. -/
theorem enterHeat_level_of_ne_on {st : HeatState} (h : st ≠ .on) (source : HeatSource)
    (run : Option RunRecord) : (enterHeat st source run s).htr.level = none := by
  unfold enterHeat
  rw [raise_htr, allocate_htr_of_not_counts]
  · simp [h]
  · rw [Bool.eq_false_iff, Ne, heaterCounts_iff]
    exact fun hc => h hc.1

theorem endRequest_level (cause : HeatEnd) {r : HeatRequest} (h : s.htr.request = some r) :
    (endRequest cause s).htr.level = none := by
  simp only [endRequest, h, raise_htr]
  rw [allocate_htr_of_not_counts (by rfl)]
  rfl

/-! ## Entry to ON -/

/-- R67: the run of the PACK source: the active one, or one that starts at this level. -/
def ensureRun (level : Level) (s : State) : State := if s.runActive then s else startRun level s

@[simp] theorem ensureRun_core (l : Level) : (ensureRun l s).htr.core = s.htr.core := by
  unfold ensureRun
  split
  · rfl
  · exact startRun_core s l

theorem ensureRun_runActive (l : Level) : (ensureRun l s).runActive = true := by
  unfold ensureRun
  split
  · assumption
  · rfl

/-- The request has been on, from this entry on. -/
def markOn (r : HeatRequest) (s : State) : State :=
  s.withHtr { s.htr with state := .on, request := some { r with hasBeenOn := true } }

theorem markOn_core (r : HeatRequest) : (markOn r s).htr.core
    = { s.htr.core with state := .on, request := some { r with hasBeenOn := true } } := rfl

/-- R63, R67: what the entry to ON changes before HEAT_STATE's allocation: the switch is closed and the
request marked; with the source PACK a run is active and the source's level applied. -/
theorem enterOn_spec {r : HeatRequest} (h : s.htr.request = some r) :
    ∃ u, enterOn s = enterHeat .on r.source none u
      ∧ u.htr.core = { s.htr.core with
          state := .on, switch := true, request := some { r with hasBeenOn := true } }
      ∧ u.seq = s.seq
      ∧ (r.source = .pack → u.runActive = true ∧ u.htr.level = packGrant s r) := by
  have hset : (closeSwitch s).htr.settings = s.htr.settings :=
    (congrArg Htr.settings (closeSwitch_core s) :)
  have hgrant : packGrant (closeSwitch s) r = packGrant s r := by simp only [packGrant, hset]
  cases hsrc : r.source with
  | pack =>
    refine ⟨setPackLevel (packGrant s r) (markOn r (ensureRun ((packGrant s r).getD .l1)
      (closeSwitch s))), ?_, ?_, ?_, fun _ => ⟨?_, rfl⟩⟩
    · simp only [enterOn, h, hsrc, hgrant]
      rfl
    · rw [setPackLevel_core, markOn_core, ensureRun_core, closeSwitch_core, hsrc]
    · simp [markOn, ensureRun, apply_ite State.seq]
    · rw [setPackLevel_runActive]
      exact ensureRun_runActive _ _
  | none | inlet =>
    refine ⟨markOn r (closeSwitch s), ?_, ?_, ?_, nofun⟩
    · simp only [enterOn, h, hsrc]
      rfl
    · rw [markOn_core, closeSwitch_core, hsrc]
    · simp [markOn]

/-- R63: entry to ON closes the switch and notes that the request has been on. -/
theorem enterOn_core {r : HeatRequest} (h : s.htr.request = some r) : (enterOn s).htr.core
    = { s.htr.core with state := .on, switch := true, request := some { r with hasBeenOn := true } } := by
  obtain ⟨u, hu, e, -⟩ := enterOn_spec s h
  have hreq : u.htr.request = some { r with hasBeenOn := true } := (congrArg Htr.request e :)
  rw [hu, enterHeat_core, e, hreq]
  rfl

/-- R63, R67: what the entry to ON with the source PACK leaves of the run and the level. -/
theorem enterOn_pack {r : HeatRequest} (h : s.htr.request = some r) (hsrc : r.source = .pack) :
    (enterOn s).runActive = true ∧ (enterOn s).htr.level = packGrant s r := by
  obtain ⟨u, hu, e, -, hpack⟩ := enterOn_spec s h
  obtain ⟨hrun, hlevel⟩ := hpack hsrc
  have hreq : u.htr.request = some { r with hasBeenOn := true } := (congrArg Htr.request e :)
  rw [hu, hsrc]
  unfold enterHeat State.runActive
  rw [raise_htr, allocate_htr_of_not_counts]
  · exact ⟨hrun, by simpa using hlevel⟩
  · simp [heaterCounts, hreq]

/-- R63: with the source INLET, the level is the one the allocation of the open session applies. -/
theorem enterOn_inlet {r : HeatRequest} (h : s.htr.request = some r)
    (hsrc : r.source = .inlet) (hctx : s.seq.ctx.isSome = true) :
    (enterOn s).htr.level = (enterOn s).alc.appliedGrant := by
  obtain ⟨u, hu, e, hseq, -⟩ := enterOn_spec s h
  have hreq : u.htr.request = some { r with hasBeenOn := true } := (congrArg Htr.request e :)
  rw [hu]
  unfold enterHeat
  rw [raise_htr, raise_alc]
  apply allocate_level_of_counts
  · simp [heaterCounts, hreq, hsrc]
  · rw [← hseq] at hctx
    exact hctx

/-! ## Withdrawal from ISM -/

/-- R62, R82: what a withdrawal of HTR's request leaves of ISM `i`. -/
def HeaterWithdrawn (i j : Ism) : Prop :=
  j.slotHeater = false
    ∧ ((∀ m, i.flight = some m → m.slot ≠ .heater) → j = { i with slotHeater := false })
    ∧ (∀ m, i.flight = some m → m.slot = .heater → j.flight = none
      ∧ ∀ sec, j.record sec = if sec = m.sec then
          { i.record sec with discarded := bump16 (i.record sec).discarded } else i.record sec)

theorem withdrawHeater_withdrawn : HeaterWithdrawn s.ism (withdrawHeater s).ism := by
  rw [withdrawHeater_ism]
  refine ⟨rfl, fun hother => ?_, fun m hm hslot => ?_⟩
  · have hserves : ¬ s.ism.serves .heater = true := by
      rw [Ism.serves_iff]
      rintro ⟨m, hm, hslot⟩
      exact hother m hm hslot
    rw [if_neg hserves]
  · rw [if_pos ((Ism.serves_iff _ _).2 ⟨m, hm, hslot⟩), discard_ism_some hm]
    refine ⟨by cases m.sec <;> rfl, fun sec => ?_⟩
    have hrec : ∀ (i : Ism) (c : Section), ({ i with slotHeater := false } : Ism).record c
        = i.record c := fun _ c => by cases c <;> rfl
    rw [hrec, Ism.record_withRecord]
    by_cases hsec : sec = m.sec
    · rw [if_pos hsec, if_pos hsec, hsec]
    · rw [if_neg hsec, if_neg hsec]
      cases sec <;> rfl

/-! ## The evaluation (R61) -/

/-- R61: the request has a source it can use, and the element lock is clear. -/
def Usable (s : State) (r : HeatRequest) : Prop :=
  s.htr.lock = false ∧ usableSource s r ≠ .none ∧ (r.source = .none ∨ r.source = usableSource s r)

variable {s}

theorem htrEvaluate_unusable {r : HeatRequest} (h : s.htr.request = some r) (hu : ¬ Usable s r) :
    htrEvaluate s = if s.htr.state = .pending then s
      else toPending (if s.htr.lock then .element else .sourceLost) s := by
  have hc : s.htr.lock = true ∨ usableSource s r = .none
      ∨ (r.source ≠ .none ∧ r.source ≠ usableSource s r) := by
    by_cases hlock : s.htr.lock = true
    · exact .inl hlock
    by_cases hnone : usableSource s r = .none
    · exact .inr (.inl hnone)
    have hclear : s.htr.lock = false := eq_false_of_ne_true hlock
    exact .inr (.inr ⟨fun he => hu ⟨hclear, hnone, .inl he⟩, fun he => hu ⟨hclear, hnone, .inr he⟩⟩)
  simp only [htrEvaluate, h]
  rw [if_pos hc]

theorem htrEvaluate_usable {r : HeatRequest} (h : s.htr.request = some r) (hu : Usable s r) :
    htrEvaluate s = place (usableSource s r) r s := by
  obtain ⟨hlock, hsome, hsame⟩ := hu
  simp only [htrEvaluate, h]
  rw [if_neg]
  rintro (hl | hn | ⟨hne, hdiff⟩)
  · exact absurd (hlock.symm.trans hl) (by decide)
  · exact hsome hn
  · exact hsame.elim hne hdiff

variable {source : HeatSource} {r : HeatRequest}

/-- R61: a request that waits, and for which the pack demands heat, goes to CHECK. -/
theorem place_check (hd : demandsHeat s r = true)
    (hw : s.htr.state = .idle ∨ s.htr.state = .pending ∨ s.htr.state = .satisfied) :
    place source r s = enterCheck source s := by
  rcases hw with hst | hst | hst <;> simp [place, hst, hd]

/-- R61: without demand, IDLE and PENDING go to SATISFIED. -/
theorem place_satisfied (hd : demandsHeat s r = false)
    (hw : s.htr.state = .idle ∨ s.htr.state = .pending) :
    place source r s = enterHeat .satisfied source none s := by
  rcases hw with hst | hst <;> simp [place, hst, hd]

/-- R62: CHECK without demand withdraws the request of its measurement. -/
theorem place_leaves_check (hd : demandsHeat s r = false) (hst : s.htr.state = .check) :
    place source r s = enterHeat .satisfied source none (withdrawHeater s) := by
  simp [place, hst, hd]

/-- R61: CHECK with demand and SATISFIED without it stay. -/
theorem place_stays (hst : (s.htr.state = .check ∧ demandsHeat s r = true)
      ∨ (s.htr.state = .satisfied ∧ demandsHeat s r = false)) :
    place source r s = s := by
  rcases hst with ⟨hst, hd⟩ | ⟨hst, hd⟩ <;> simp [place, hst, hd]

/-- R64: ON ends at the target or at max_pack_temp. -/
theorem place_leaves_on (hst : s.htr.state = .on)
    (hlim : r.target ≤ s.tMinUsed ∨ s.htr.settings.maxPackTemp ≤ s.tMaxUsed) :
    place source r s = enterHeat .satisfied source none (openSwitch s) := by
  simp only [place, hst]
  rw [if_pos hlim]

/-- R63, R64: below both, ON stands, and its level follows the PACK source. -/
theorem place_stays_on (hst : s.htr.state = .on) (hmin : s.tMinUsed < r.target)
    (hmax : s.tMaxUsed < s.htr.settings.maxPackTemp) : place source r s = followPack s := by
  simp only [place, hst]
  rw [if_neg (by omega)]

/-! ## Entry to CHECK (R61, R62) -/

/-- R62: the entry to CHECK does not touch what freshness is read from. -/
theorem freshCheck_enterHeat (st : HeatState) (source : HeatSource) (run : Option RunRecord)
    (s : State) : freshCheck (enterHeat st source run s) = freshCheck s := by
  have hset : (enterHeat st source run s).htr.settings = s.htr.settings :=
    (congrArg Htr.settings (enterHeat_core s st source run) :)
  simp only [freshCheck, enterHeat_ism, enterHeat_nowMs, hset]

theorem enterCheck_not_fresh (hf : freshCheck s = none) :
    enterCheck source s = (enterHeat .check source none s).withIsm
      { s.ism with slotHeater := true } := by
  simp [enterCheck, freshCheck_enterHeat, hf]

theorem enterCheck_fresh {figure : Nat} (hf : freshCheck s = some figure) :
    enterCheck source s = judgeCheck figure (enterHeat .check source none s) := by
  simp [enterCheck, freshCheck_enterHeat, hf]

/-- The request after an entry to a state with this source. -/
theorem enterHeat_request {st : HeatState} {run : Option RunRecord} (h : s.htr.request = some r) :
    (enterHeat st source run s).htr.request = some { r with source := source } :=
  (congrArg Htr.request (enterHeat_core s st source run) :).trans (by rw [h]; rfl)

theorem enterHeat_state {st : HeatState} {run : Option RunRecord} :
    (enterHeat st source run s).htr.state = st :=
  (congrArg Htr.state (enterHeat_core s st source run) :)

/-! ## Where an evaluation leaves the request -/

/-- R61, R62, R64, R82: without a usable source, or with the element lock set. -/
theorem htrEvaluate_to_pending (h : s.htr.request = some r) (hu : ¬ Usable s r) :
    (htrEvaluate s).htr.state = .pending
      ∧ (s.htr.state ≠ .pending → (htrEvaluate s).htr.request = some { r with source := .none }
        ∧ (htrEvaluate s).htr.level = none)
      ∧ (s.htr.state = .on → (htrEvaluate s).htr.switch = false)
      ∧ (s.htr.state = .check → HeaterWithdrawn s.ism (htrEvaluate s).ism) := by
  rw [htrEvaluate_unusable h hu]
  by_cases hp : s.htr.state = .pending
  · simp [hp]
  rw [if_neg hp]
  generalize (if s.htr.lock then HeatEnd.element else .sourceLost) = cause
  have e := toPending_core s cause
  have hreq : (toPending cause s).htr.request
      = s.htr.request.map fun r => { r with source := .none } :=
    (congrArg Htr.request e :)
  refine ⟨(congrArg Htr.state e :), fun _ => ⟨by rw [hreq, h]; rfl, ?_⟩,
    fun hon => ?_, fun hc => ?_⟩
  · exact enterHeat_level_of_ne_on _ (by decide) _ _
  · exact (congrArg Htr.switch e :).trans (if_pos hon)
  · have hism : (toPending cause s).ism = (withdrawHeater s).ism := by
      simp [toPending, giveUp, hc]
    rw [hism]
    exact withdrawHeater_withdrawn s

/-- R61, R62: no demand leads to SATISFIED with the source held, and CHECK is left by a withdrawal. -/
theorem htrEvaluate_to_satisfied (h : s.htr.request = some r) (hu : Usable s r)
    (hd : demandsHeat s r = false)
    (hst : s.htr.state = .idle ∨ s.htr.state = .pending ∨ s.htr.state = .check) :
    (htrEvaluate s).htr.state = .satisfied
      ∧ (htrEvaluate s).htr.request = some { r with source := usableSource s r }
      ∧ (s.htr.state = .check → HeaterWithdrawn s.ism (htrEvaluate s).ism) := by
  rw [htrEvaluate_usable h hu]
  by_cases hc : s.htr.state = .check
  · rw [place_leaves_check hd hc]
    have hreq : (withdrawHeater s).htr.request = some r :=
      (congrArg Htr.request (withdrawHeater_core s) :).trans h
    refine ⟨enterHeat_state, enterHeat_request hreq, fun _ => ?_⟩
    rw [enterHeat_ism]
    exact withdrawHeater_withdrawn s
  · have hw : s.htr.state = .idle ∨ s.htr.state = .pending :=
      hst.imp_right fun hst => hst.resolve_right hc
    rw [place_satisfied hd hw]
    exact ⟨enterHeat_state, enterHeat_request h, fun hc' => absurd hc' hc⟩

/-- R61, R62: with demand and no fresh result, HTR is in CHECK and its request stands in ISM. -/
theorem htrEvaluate_to_check (h : s.htr.request = some r) (hu : Usable s r)
    (hd : demandsHeat s r = true)
    (hw : s.htr.state = .idle ∨ s.htr.state = .pending ∨ s.htr.state = .satisfied)
    (hf : freshCheck s = none) :
    (htrEvaluate s).htr.state = .check
      ∧ (htrEvaluate s).htr.request = some { r with source := usableSource s r }
      ∧ (htrEvaluate s).ism.slotHeater = true := by
  rw [htrEvaluate_usable h hu, place_check hd hw, enterCheck_not_fresh hf]
  exact ⟨enterHeat_state (run := none), enterHeat_request (run := none) h, rfl⟩

/-- R62: with demand and a fresh result, the evaluation is the judgement of that result. -/
theorem htrEvaluate_judges {figure : Nat} (h : s.htr.request = some r) (hu : Usable s r)
    (hd : demandsHeat s r = true)
    (hw : s.htr.state = .idle ∨ s.htr.state = .pending ∨ s.htr.state = .satisfied)
    (hf : freshCheck s = some figure) :
    htrEvaluate s = judgeCheck figure (enterHeat .check (usableSource s r) none s) := by
  rw [htrEvaluate_usable h hu, place_check hd hw, enterCheck_fresh hf]

/-- R62, R63: a fresh result at or above the threshold takes the request from CHECK to ON. -/
theorem judgeCheck_on {figure : Nat} (h : s.htr.request = some r) (hfig : s.ism.fault ≤ figure) :
    let t := judgeCheck figure (enterHeat .check source none s)
    t.htr.state = .on ∧ t.htr.switch = true
      ∧ t.htr.request = some { r with source := source, hasBeenOn := true }
      ∧ (source = .pack → t.runActive = true
        ∧ t.htr.level = grant r.level (min s.htr.settings.packHeatMax 2400))
      ∧ (source = .inlet → s.seq.ctx.isSome = true → t.htr.level = t.alc.appliedGrant) := by
  intro t
  have hset : (enterHeat .check source none s).htr.settings = s.htr.settings :=
    (congrArg Htr.settings (enterHeat_core s .check source none) :)
  have hreq := enterHeat_request (st := .check) (source := source) (run := none) h
  have ht : t = enterOn (enterHeat .check source none s) :=
    if_pos (by rw [enterHeat_ism]; exact hfig)
  clear_value t
  subst ht
  have e := enterOn_core _ hreq
  refine ⟨(congrArg Htr.state e :), (congrArg Htr.switch e :), (congrArg Htr.request e :), ?_, ?_⟩
  · intro hsrc
    obtain ⟨hrun, hlevel⟩ := enterOn_pack _ hreq hsrc
    exact ⟨hrun, hlevel.trans (by rw [packGrant, hset])⟩
  · intro hsrc hctx
    exact enterOn_inlet _ hreq hsrc (by rwa [enterHeat_seq])

/-- R62: a fresh result below the threshold ends the request. -/
theorem judgeCheck_ends {figure : Nat} (h : s.htr.request = some r) (hfig : figure < s.ism.fault) :
    let t := judgeCheck figure (enterHeat .check source none s)
    t.htr.state = .idle ∧ t.htr.request = none ∧ t.htr.level = none := by
  intro t
  have hreq := enterHeat_request (st := .check) (source := source) (run := none) h
  have ht : t = endRequest .isoCheck (enterHeat .check source none s) :=
    if_neg (by rw [enterHeat_ism]; omega)
  clear_value t
  subst ht
  have e := endRequest_core _ .isoCheck hreq
  exact ⟨(congrArg Htr.state e :), (congrArg Htr.request e :), endRequest_level _ _ hreq⟩

/-- R64: ON ends at the target or at max_pack_temp, with the switch open. -/
theorem htrEvaluate_leaves_on (h : s.htr.request = some r) (hu : Usable s r)
    (hst : s.htr.state = .on)
    (hlim : r.target ≤ s.tMinUsed ∨ s.htr.settings.maxPackTemp ≤ s.tMaxUsed) :
    (htrEvaluate s).htr.state = .satisfied ∧ (htrEvaluate s).htr.switch = false
      ∧ (htrEvaluate s).htr.request = some { r with source := usableSource s r } := by
  rw [htrEvaluate_usable h hu, place_leaves_on hst hlim]
  have e := openSwitch_core s
  have hreq : (openSwitch s).htr.request = some r := (congrArg Htr.request e :).trans h
  refine ⟨enterHeat_state, ?_, enterHeat_request hreq⟩
  exact (congrArg Htr.switch (enterHeat_core _ _ _ _) :).trans (congrArg Htr.switch e :)

/-- R63, R64: ON stands below both. -/
theorem htrEvaluate_stays_on (h : s.htr.request = some r) (hu : Usable s r)
    (hst : s.htr.state = .on) (hmin : s.tMinUsed < r.target)
    (hmax : s.tMaxUsed < s.htr.settings.maxPackTemp) :
    (htrEvaluate s).htr.state = .on ∧ (htrEvaluate s).htr.request = some r := by
  rw [htrEvaluate_usable h hu, place_stays_on hst hmin hmax]
  have e := followPack_core s
  exact ⟨(congrArg Htr.state e :).trans hst, (congrArg Htr.request e :).trans h⟩

/-! ## What an evaluation asks -/

theorem demandsHeat_iff : demandsHeat s r = true ↔ s.tMaxUsed < s.htr.settings.maxPackTemp
    ∧ (s.tMinUsed < r.target - s.htr.settings.hysteresis
      ∨ (r.hasBeenOn = false ∧ s.tMinUsed < r.target)) := by
  simp [demandsHeat]

/-- R62: the result that spares a new measurement. -/
theorem freshCheck_iff {figure : Nat} : freshCheck s = some figure ↔ s.htr.settings.checkAge ≠ 0
    ∧ ∃ q, s.ism.heater.result = some q ∧ q.figure = figure
      ∧ s.nowMs - q.instant ≤ s.htr.settings.checkAge * 1000 := by
  unfold freshCheck
  cases s.ism.heater.result with
  | none => simp
  | some q =>
    simp only [Option.ite_none_right_eq_some, Option.some.injEq, exists_eq_left']
    constructor
    · rintro ⟨⟨hset, hage⟩, hfig⟩
      exact ⟨hset, hfig, hage⟩
    · rintro ⟨hset, hfig, hage⟩
      exact ⟨⟨hset, hage⟩, hfig⟩

theorem restElapsed_iff (next : NextOp) : restElapsed s next = true ↔
    s.seq.rest.endInstant + requiredRest s next ≤ s.nowMs :=
  decide_eq_true_iff

/-- R60: the six conditions of the PACK source. -/
theorem packTakeable_iff : packTakeable s r = true ↔ r.policy = .inletOrPack ∧ s.seq.state = .idle
    ∧ s.seq.pendingStart = none ∧ s.inputs.packLive = true
    ∧ s.htr.settings.packFloor ≤ s.mfe.packVoltage
    ∧ s.seq.rest.endInstant + requiredRest s .packHeat ≤ s.nowMs := by
  simp only [packTakeable, packHolds, restElapsed_iff, Bool.and_eq_true, beq_iff_eq,
    decide_eq_true_eq, Option.isNone_iff_eq_none]
  constructor
  · rintro ⟨⟨⟨⟨⟨hpolicy, hidle⟩, hlive⟩, hfloor⟩, hstart⟩, hrest⟩
    exact ⟨hpolicy, hidle, hstart, hlive, hfloor, hrest⟩
  · rintro ⟨hpolicy, hidle, hstart, hlive, hfloor, hrest⟩
    exact ⟨⟨⟨⟨⟨hpolicy, hidle⟩, hlive⟩, hfloor⟩, hstart⟩, hrest⟩

/-- R60: a request without a source that may take PACK finds PACK usable. -/
theorem usableSource_of_packTakeable (hsrc : r.source = .none) (ht : packTakeable s r = true) :
    usableSource s r = .pack := by
  obtain ⟨-, hidle, -⟩ := packTakeable_iff.1 ht
  simp [usableSource, hidle, SeqState.delivers, hsrc, ht]

theorem htrEvaluate_stays (h : s.htr.request = some r) (hu : Usable s r)
    (hst : (s.htr.state = .check ∧ demandsHeat s r = true)
      ∨ (s.htr.state = .satisfied ∧ demandsHeat s r = false)) : htrEvaluate s = s := by
  rw [htrEvaluate_usable h hu, place_stays hst]

/-! ## PACK_HEAT_REST_ELAPSED -/

theorem exec_packHeatRestElapsed (a : Arrival) (s : State) : exec (.packHeatRestElapsed a) s
    = .next (finish s (packHeatRestElapsed (arrive a s))) := rfl

theorem packHeatRestElapsed_early (h : restElapsed s .packHeat = false) :
    packHeatRestElapsed s = s := by
  simp [packHeatRestElapsed, h]

theorem packHeatRestElapsed_due (h : restElapsed s .packHeat = true) :
    packHeatRestElapsed s = htrEvaluate s := by
  simp [packHeatRestElapsed, h]

/-- Settles O15: each placement of the evaluation by its own lemma, over the core of HTR's block. -/
theorem theEvaluationPlacesTheRequest : Obligations.TheEvaluationPlacesTheRequest := by
  unfold Obligations.TheEvaluationPlacesTheRequest
  refine ⟨fun s r h => ?_, fun s r => ?_,
    fun a s => ⟨fun hearly => ?_, fun r h hst hsrc hlock ht hd hf => ?_⟩⟩
  · refine ⟨fun hu => htrEvaluate_to_pending h hu, ?_, ?_, ?_, ?_, ?_, ?_⟩
    · exact fun hu hd hc => (htrEvaluate_to_satisfied h hu hd (.inr (.inr hc))).2.2 hc
    · intro hu hd hst
      obtain ⟨hstate, hreq, -⟩ := htrEvaluate_to_satisfied h hu hd hst
      exact ⟨hstate, hreq⟩
    · exact fun hu hd hw hf => htrEvaluate_to_check h hu hd hw hf
    · intro figure hu hd hw hf
      rw [htrEvaluate_judges h hu hd hw hf]
      exact ⟨judgeCheck_on h, judgeCheck_ends h⟩
    · exact fun hu hst hlim => htrEvaluate_leaves_on h hu hst hlim
    · exact fun hu hst hmin hmax => htrEvaluate_stays_on h hu hst hmin hmax
  · refine ⟨rfl, rfl, demandsHeat_iff, fun figure => freshCheck_iff, packTakeable_iff, ?_⟩
    exact fun h hlock hsome hsame hst => htrEvaluate_stays h ⟨hlock, hsome, hsame⟩ hst
  · have hnot : restElapsed (arrive a s) .packHeat = false := by
      rw [Bool.eq_false_iff, Ne, restElapsed_iff]
      exact Nat.not_le.2 hearly
    rw [exec_packHeatRestElapsed, packHeatRestElapsed_early hnot]
  · have hpack := usableSource_of_packTakeable hsrc ht
    obtain ⟨-, -, -, -, -, hrest⟩ := packTakeable_iff.1 ht
    have helapsed : restElapsed (arrive a s) .packHeat = true := (restElapsed_iff _).2 hrest
    have hu : Usable (arrive a s) r := ⟨hlock, by rw [hpack]; decide, .inl hsrc⟩
    obtain ⟨hstate, hreq, hslot⟩ :=
      htrEvaluate_to_check (s := arrive a s) h hu hd (.inr (.inl hst)) hf
    rw [hpack] at hreq
    refine ⟨htrEvaluate (arrive a s), ?_, hstate, hreq, hslot⟩
    rw [exec_packHeatRestElapsed, packHeatRestElapsed_due helapsed]

/-! ## HEAT_REQUEST (R56, R57) -/

/-- R199: a level range outside its set. -/
theorem boolOf_of_le {b : Byte} (h : 2 ≤ b.toNat) : boolOf b = none := by
  unfold boolOf
  split
  · exact absurd h (by decide)
  · exact absurd h (by decide)
  · rfl

theorem boolOf_of_lt {b : Byte} (h : b.toNat < 2) : boolOf b = some (decide (b.toNat ≠ 0)) := by
  have hb : b = 0 ∨ b = 1 := by bv_omega
  rcases hb with rfl | rfl <;> rfl

/-- R199: a heat policy outside its set. -/
theorem heatPolicyOf_of_le {b : Byte} (h : 2 ≤ b.toNat) : heatPolicyOf b = none := by
  unfold heatPolicyOf
  split
  · exact absurd h (by decide)
  · exact absurd h (by decide)
  · rfl

theorem heatPolicyOf_of_lt {b : Byte} (h : b.toNat < 2) :
    heatPolicyOf b = some (if b.toNat = 1 then .inletOrPack else .inletOnly) := by
  have hb : b = 0 ∨ b = 1 := by bv_omega
  rcases hb with rfl | rfl <;> rfl

/-- R56: the code of the LOW level used, and when the step named is the one used. -/
theorem levelUsed_low (step : Nat) :
    (levelUsed false step).1.code = (if step < 1 then 1 else if 8 < step then 8 else step)
      ∧ ((levelUsed false step).2 = false ↔ 1 ≤ step ∧ step ≤ 8) := by
  by_cases h : step ≤ 8
  · revert step
    decide
  · obtain ⟨n, rfl⟩ := Nat.exists_eq_add_of_lt (Nat.not_le.1 h)
    have hl : levelUsed false (8 + n + 1) = (.l8, true) := by
      rw [show 8 + n + 1 = n + 9 by omega]
      rfl
    rw [hl, if_neg (by omega), if_pos (by omega)]
    exact ⟨rfl, by simp [h]⟩

/-- R56: the code of the HIGH level used, and when the step named is the one used. -/
theorem levelUsed_high (step : Nat) :
    (levelUsed true step).1.code = (if step < 5 then 8 else if 8 < step then 12 else step + 4)
      ∧ ((levelUsed true step).2 = false ↔ 5 ≤ step ∧ step ≤ 8) := by
  by_cases h : step ≤ 8
  · revert step
    decide
  · obtain ⟨n, rfl⟩ := Nat.exists_eq_add_of_lt (Nat.not_le.1 h)
    have hl : levelUsed true (8 + n + 1) = (.h8, true) := by
      rw [show 8 + n + 1 = n + 9 by omega]
      show (if n + 9 ≤ 4 then (Level.l8, true) else (.h8, true)) = _
      exact if_neg (by omega)
    rw [hl, if_neg (by omega), if_pos (by omega)]
    exact ⟨rfl, by simp [h]⟩

/-- R56: both ranges at once, by the range byte. -/
theorem levelUsed_of_range (range step : Nat) :
    (levelUsed (decide (range ≠ 0)) step).1.code
        = (if range = 0 then (if step < 1 then 1 else if 8 < step then 8 else step)
          else (if step < 5 then 8 else if 8 < step then 12 else step + 4))
      ∧ ((levelUsed (decide (range ≠ 0)) step).2 = false
        ↔ (if range = 0 then 1 else 5) ≤ step ∧ step ≤ 8) := by
  by_cases h : range = 0
  · simpa [h] using levelUsed_low step
  · simpa [h] using levelUsed_high step

theorem clampInt_eq_self_iff (lo hi x : Int) :
    clampInt lo hi x = x ↔ lo ≤ x ∧ x ≤ hi := by
  unfold clampInt
  split
  · omega
  · split <;> omega

/-- R57: a number of minutes brought into its range. -/
theorem clampMinutes_eq (m : Nat) :
    max 1 (min m 600) = (if m < 1 then 1 else if 600 < m then 600 else m) := by
  split
  · omega
  · split <;> omega

/-- R56, R57: a request is taken as it stands exactly when nothing in it was moved. -/
theorem takenRequest_unchanged_iff (f : HeatRequestReq) (high : Bool) (policy : HeatPolicy)
    (source : HeatSource) (now : Nat) :
    (takenRequest f high policy source now).2 = false
      ↔ (levelUsed high f.levelStep.toNat).2 = false
        ∧ (-20 ≤ f.target.toInt ∧ f.target.toInt ≤ 40)
        ∧ (1 ≤ f.duration.toNat ∧ f.duration.toNat ≤ 600) := by
  have hminutes : max 1 (min f.duration.toNat 600) = f.duration.toNat
      ↔ 1 ≤ f.duration.toNat ∧ f.duration.toNat ≤ 600 := by omega
  simp only [takenRequest, Bool.or_eq_false_iff, bne_eq_false_iff_eq, hminutes,
    clampInt_eq_self_iff, and_assoc]

/-- R56: an enumeration outside its set. -/
theorem heatRequestOwner_range {f : HeatRequestReq}
    (h : 2 ≤ f.levelRange.toNat ∨ 2 ≤ f.policy.toNat) (s : State) :
    heatRequestOwner f s = (s, bare .range) := by
  unfold heatRequestOwner levelRangeOf
  rcases h with h | h
  · rw [boolOf_of_le h]
  · rw [heatPolicyOf_of_le h]
    cases boolOf f.levelRange <;> rfl

/-- R56: a FAULT level refuses the request. -/
theorem heatRequestOwner_latched {f : HeatRequestReq}
    (h : ¬ (2 ≤ f.levelRange.toNat ∨ 2 ≤ f.policy.toNat))
    (hf : s.ism.packLevel.level = .fault ∨ s.ism.heaterLevel.level = .fault) :
    heatRequestOwner f s = (s, heatReply .latched s) := by
  obtain ⟨hrange, hpolicy⟩ := not_or.1 h
  unfold heatRequestOwner levelRangeOf
  rw [boolOf_of_lt (Nat.not_le.1 hrange), heatPolicyOf_of_lt (Nat.not_le.1 hpolicy)]
  exact if_pos hf

/-- R56, R57: the request that a taken HEAT_REQUEST writes, and whether a value was moved. -/
def writtenRequest (f : HeatRequestReq) (s : State) : HeatRequest × Bool :=
  takenRequest f (decide (f.levelRange.toNat ≠ 0))
    (if f.policy.toNat = 1 then .inletOrPack else .inletOnly) (carriedSource s) s.nowMs

/-- R56, R57: the allocation and the evaluation follow the write, and the reply is read after them. -/
theorem heatRequestOwner_taken {f : HeatRequestReq}
    (h : ¬ (2 ≤ f.levelRange.toNat ∨ 2 ≤ f.policy.toNat))
    (hf : ¬ (s.ism.packLevel.level = .fault ∨ s.ism.heaterLevel.level = .fault)) :
    heatRequestOwner f s =
      let u := htrEvaluate (allocate (s.withHtr { s.htr with
        request := some (writtenRequest f s).1 }))
      (arbiter s u, heatReply (if (writtenRequest f s).2 then .clamped else .ok) u) := by
  obtain ⟨hrange, hpolicy⟩ := not_or.1 h
  unfold heatRequestOwner levelRangeOf
  rw [boolOf_of_lt (Nat.not_le.1 hrange), heatPolicyOf_of_lt (Nat.not_le.1 hpolicy)]
  exact if_neg hf

theorem exec_heatRequest {a : Arrival} (f : HeatRequestReq) (h : slotReady s = true) :
    exec (.heatRequest a f) s = .next (answered 0x29 (heatRequestOwner f (taken a s)).2
      (heatRequestOwner f (taken a s)).1) :=
  congrArg Host.Outcome.next (requestArrival_ready h)

/-- Settles O16: the owner's three outcomes, and the written request field by field. -/
theorem heatRequestReplacesAndEvaluates : Obligations.HeatRequestReplacesAndEvaluates := by
  unfold Obligations.HeatRequestReplacesAndEvaluates
  refine ⟨fun a f s hready => ?_, fun st s => ?_⟩
  · intro ranged faulted target step minutes code asNamed
    rw [exec_heatRequest f hready]
    refine ⟨fun h => ?_, fun h hf => ?_, fun h hf => ?_⟩
    · rw [heatRequestOwner_range h]
      rfl
    · rw [heatRequestOwner_latched (s := taken a s) h hf]
      rfl
    · obtain ⟨hcode, hstep⟩ := levelUsed_of_range f.levelRange.toNat f.levelStep.toNat
      have hmoved : (writtenRequest f (taken a s)).2 = false ↔ asNamed := by
        rw [writtenRequest, takenRequest_unchanged_iff, hstep]
        constructor
        · rintro ⟨⟨hlow, hhigh⟩, ⟨hcold, hwarm⟩, hshort, hlong⟩
          exact ⟨hcold, hwarm, hshort, hlong, hlow, hhigh⟩
        · rintro ⟨hcold, hwarm, hshort, hlong, hlow, hhigh⟩
          exact ⟨⟨hlow, hhigh⟩, ⟨hcold, hwarm⟩, hshort, hlong⟩
      have hstatus : (if (writtenRequest f (taken a s)).2 then Status.clamped else .ok)
          = if asNamed then .ok else .clamped := by
        by_cases he : asNamed
        · rw [hmoved.2 he, if_pos he]
          rfl
        · rw [eq_true_of_ne_false (mt hmoved.1 he), if_neg he]
          rfl
      refine ⟨(writtenRequest f (taken a s)).1, _, rfl, ?_, rfl, hcode, rfl, ?_, rfl, rfl⟩
      · rw [heatRequestOwner_taken (s := taken a s) h hf, ← hstatus]
        rfl
      · rw [← clampMinutes_eq]
        rfl
  · have hst : putU8 st.code.toNat = [st.code] := by cases st <;> rfl
    rw [heatReply, hst]
    cases s.htr.request <;> rfl

/-! ## The element lock (R65) -/

theorem readingValid_iff (r : Reading) (lo hi : Int) :
    readingValid r lo hi = true ↔ r.marked = true ∧ lo ≤ r.value ∧ r.value ≤ hi := by
  simp [readingValid]

/-- R35, R65: a reading changes nothing but EVT by turning a sensor invalid. -/
theorem sensorFault_eq (sensor : SensorId) (before : Sensor) (valid : Bool) (r : Reading)
    (s : State) : sensorFault sensor before valid r s
      = s.withEvt (if before.valid = true ∧ valid = false then
          s.evt.raise s.nowMs (.sensorFault sensor (readingReason r)) else s.evt) := by
  unfold sensorFault
  by_cases h : before.valid = true ∧ valid = false
  · simp [h, raise]
  · rw [if_neg h, if_neg (by simpa using h)]
    rfl

theorem lockAfter_invalid (set : HeaterSettings) (lock : Bool) (value : Int) :
    lockAfter set lock false value = true := rfl

theorem lockAfter_hot {set : HeaterSettings} {value : Int} (h : set.elementMax ≤ value)
    (lock valid : Bool) : lockAfter set lock valid value = true := by
  simp [lockAfter, h]

theorem lockAfter_cool {set : HeaterSettings} {value : Int} (h : value < set.elementMax)
    (h' : value < set.elementResume) (lock : Bool) : lockAfter set lock true value = false := by
  simp [lockAfter, h, h']

theorem lockAfter_between {set : HeaterSettings} {value : Int} (h : value < set.elementMax)
    (h' : set.elementResume ≤ value) (lock : Bool) : lockAfter set lock true value = lock := by
  simp [lockAfter, Int.not_le.2 h, Int.not_lt.2 h']

/-- R65: the state that holds a reading, before the evaluation. -/
def elementHeld (r : Reading) (s : State) : State :=
  let valid := readingValid r (-40) 150
  sensorFault .element s.htr.element valid r (s.withHtr { s.htr with
    element := { value := r.value, valid := valid }
    lock := lockAfter s.htr.settings s.htr.lock valid r.value })

theorem elementArrival_eq (r : Reading) (s : State) : elementArrival r s
    = if (elementHeld r s).htr.lock = s.htr.lock then elementHeld r s
      else htrEvaluate (elementHeld r s) := by
  simp only [elementArrival, elementHeld, sensorFault_eq, State.withEvt_htr, State.withHtr_htr]

theorem exec_elementTemperatureReading (a : Arrival) (r : Reading) (s : State) :
    exec (.elementTemperatureReading a r) s
      = .next (finish s (elementArrival r (arrive a s))) := rfl

/-- Settles O18: the state that holds the reading, and the lock by the four ranges of R65. -/
theorem theElementLockFollowsTheReading : Obligations.TheElementLockFollowsTheReading := by
  unfold Obligations.TheElementLockFollowsTheReading
  intro a r s valid
  have hvalid : readingValid r (-40) 150 = decide valid := by
    rw [Bool.eq_iff_iff, readingValid_iff, decide_eq_true_iff]
  have hyes (h : valid) : readingValid r (-40) 150 = true := by rw [hvalid]; exact decide_eq_true h
  have hno (h : ¬ valid) : readingValid r (-40) 150 = false := by
    rw [hvalid]; exact decide_eq_false h
  have hlock : (elementHeld r (arrive a s)).htr.lock
      = lockAfter s.htr.settings s.htr.lock (readingValid r (-40) 150) r.value := by
    simp [elementHeld, sensorFault_eq]
  refine ⟨elementHeld r (arrive a s), ?_, ?_, ?_, ?_, ?_, ?_, ?_, ?_, ?_⟩
  · rw [exec_elementTemperatureReading, elementArrival_eq]
    rfl
  · simp only [elementHeld, sensorFault_eq, hvalid]
    rfl
  · intro h
    rw [hlock, hno h, lockAfter_invalid]
  · intro _ hmax
    rw [hlock, lockAfter_hot hmax]
  · intro h hmax hres
    rw [hlock, hyes h, lockAfter_cool hmax hres]
  · intro h hmax hres
    rw [hlock, hyes h, lockAfter_between hmax hres]
  · intro hbefore h
    simp only [elementHeld, sensorFault_eq, hno h]
    exact if_pos ⟨hbefore, trivial⟩
  · rintro (hbefore | h)
    · simp [elementHeld, sensorFault_eq, hbefore]
    · simp [elementHeld, sensorFault_eq, hyes h]
  · simp [elementHeld, sensorFault_eq]

end Sys2Proof.Machine
end

section
/-! PROOFS. The insulation estimate (R98 to R104), one equation per step of it, and ISO_CLEAR (R112),
one equation per row of its table; and the statements of the family on both. -/
namespace Sys2Proof.Machine
open Sys2Proof

/-! ## The estimate (R98 to R104) -/

/-- R102, R103: a zero denominator, or a quotient over the ceiling, gives the ceiling, marked. -/
theorem leakage_past {r0 det d : Nat} (h : d = 0 ∨ 50000 < r0 * det / d) :
    leakage r0 det d = (50000, true) := by
  unfold leakage
  by_cases hd : d = 0
  · exact if_pos hd
  · rw [if_neg hd]
    exact if_pos (h.resolve_left hd)

/-- R102: a quotient up to the ceiling is the resistance. -/
theorem leakage_within {r0 det d : Nat} (h : ¬ (d = 0 ∨ 50000 < r0 * det / d)) :
    leakage r0 det d = (r0 * det / d, false) := by
  obtain ⟨hd, hr⟩ := not_or.1 h
  unfold leakage
  rw [if_neg hd]
  exact if_neg hr

theorem leakage_marked_iff (r0 det d : Nat) :
    (leakage r0 det d).2 = true ↔ d = 0 ∨ 50000 < r0 * det / d := by
  by_cases h : d = 0 ∨ 50000 < r0 * det / d
  · simp [leakage_past h, h]
  · simp [leakage_within h, h]

section
variable {set : IsoSettings} {vpA vnA vpB vnB : Nat}

/-- R99. -/
theorem estimate_dead (hdead : vpA + vnA < 500 ∨ vpB + vnB < 500) :
    estimate set vpA vnA vpB vnB = .dead (vpA + vnA) (vpB + vnB) :=
  if_pos hdead

/-- R100. -/
theorem estimate_tolerance (hlive : ¬ (vpA + vnA < 500 ∨ vpB + vnB < 500))
    (hapart : vpB + vnB + set.tolerance < vpA + vnA ∨ vpA + vnA + set.tolerance < vpB + vnB) :
    estimate set vpA vnA vpB vnB = .tolerance (vpA + vnA) (vpB + vnB) :=
  (if_neg hlive).trans (if_pos hapart)

/-- R101. -/
theorem estimate_polarity (hlive : ¬ (vpA + vnA < 500 ∨ vpB + vnB < 500))
    (hnear : ¬ (vpB + vnB + set.tolerance < vpA + vnA ∨ vpA + vnA + set.tolerance < vpB + vnB))
    (hsign : vnA * vpB ≤ vpA * vnB) :
    estimate set vpA vnA vpB vnB = .polarity (vpA + vnA) (vpB + vnB) :=
  (if_neg hlive).trans ((if_neg hnear).trans (if_pos hsign))

/-- R102 to R104. -/
theorem estimate_result (hlive : ¬ (vpA + vnA < 500 ∨ vpB + vnB < 500))
    (hnear : ¬ (vpB + vnB + set.tolerance < vpA + vnA ∨ vpA + vnA + set.tolerance < vpB + vnB))
    (hsign : ¬ vnA * vpB ≤ vpA * vnB) :
    estimate set vpA vnA vpB vnB =
      let p := leakage set.r0 (vnA * vpB - vpA * vnB) (vnB * (vpA + vnA))
      let n := leakage set.r0 (vnA * vpB - vpA * vnB) (vpA * (vpB + vnB))
      .result (vpA + vnA) (vpB + vnB) p.1 n.1 (min p.1 n.1) (min p.1 n.1 * 10000 / set.vRef)
        (p.2 && n.2) :=
  (if_neg hlive).trans ((if_neg hnear).trans (if_neg hsign))

end

/-- Settles O22: the four outcomes in the order of the steps; the statement's signed quotients are the
model's, because the sign product is positive where they are taken. -/
theorem theEstimateFollowsItsSteps : Obligations.TheEstimateFollowsItsSteps := by
  unfold Obligations.TheEstimateFollowsItsSteps
  intro set vpA vnA vpB vnB vbA vbB det dead apart o
  have hdet : det = ((vnA * vpB : Nat) : Int) - ((vpA * vnB : Nat) : Int) := by
    simp only [det, Int.natCast_mul]
  refine ⟨estimate_dead, estimate_tolerance, fun hlive hnear h => ?_, fun hlive hnear h => ?_⟩
  · exact estimate_polarity hlive hnear (by omega)
  · intro raw past
    have hsign : ¬ vnA * vpB ≤ vpA * vnB := by omega
    have hraw (d : Nat) : raw d = (set.r0 * (vnA * vpB - vpA * vnB) / d : Nat) := by
      have hsub : det = (vnA * vpB - vpA * vnB : Nat) := by omega
      simp only [raw, hsub, Int.natCast_mul, Int.natCast_ediv]
    have hpast (d : Nat) :
        past d ↔ d = 0 ∨ 50000 < set.r0 * (vnA * vpB - vpA * vnB) / d := by
      simp only [past, hraw]
      exact or_congr_right (by omega)
    have hmarked : ((leakage set.r0 (vnA * vpB - vpA * vnB) (vnB * vbA)).2
          && (leakage set.r0 (vnA * vpB - vpA * vnB) (vpA * vbB)).2)
        = decide (past (vnB * vbA) ∧ past (vpA * vbB)) := by
      rw [Bool.eq_iff_iff, Bool.and_eq_true, leakage_marked_iff, leakage_marked_iff,
        decide_eq_true_iff, hpast, hpast]
    have hceiling (d : Nat) (hd : past d) :
        (leakage set.r0 (vnA * vpB - vpA * vnB) d).1 = 50000 := by
      rw [leakage_past ((hpast d).1 hd)]
    have hquotient (d : Nat) (hd : ¬ past d) :
        ((leakage set.r0 (vnA * vpB - vpA * vnB) d).1 : Int) = raw d := by
      rw [leakage_within (mt (hpast d).2 hd), hraw]
    refine ⟨_, _, hceiling _, hquotient _, hceiling _, hquotient _, ?_⟩
    rw [← hmarked]
    exact estimate_result hlive hnear hsign

/-! ## ISO_CLEAR (R112) -/

theorem sectionOf_of_num {b : Byte} {sec : Section} (h : b.toNat = sec.num) :
    sectionOf b = some sec := by
  have hb : b = BitVec.ofNat 8 sec.num := by rw [← h, BitVec.ofNat_toNat, BitVec.setWidth_eq]
  rw [hb]
  cases sec <;> rfl

/-- R112, R199: INLET, which carries no level, or a value that names no section. -/
theorem sectionOf_of_le {b : Byte} (h : 2 ≤ b.toNat) :
    sectionOf b = some .inlet ∨ sectionOf b = none := by
  unfold sectionOf
  split
  · exact absurd h (by decide)
  · exact absurd h (by decide)
  · exact .inl rfl
  · exact .inr rfl

/-- A section's level record written back as it stands changes nothing. -/
theorem Ism.withLevel_self {i : Ism} {sec : Section} {l : LevelRecord}
    (h : i.levelRecord? sec = some l) : i.withLevel sec l = i := by
  cases sec with
  | pack => cases h; rfl
  | heater => cases h; rfl
  | inlet => rfl

/-- R112: the four bytes of ISO_CLEAR's reply for a level record. -/
def isoClearReply (st : Status) (l : LevelRecord) : List Byte :=
  [st.code, byteOf l.level.code, byteOf l.goodRun, byteOf (boolCode l.latch.isSome)]

theorem clearFault_cleared {l : LevelRecord} (h : l.level = .fault) (hgood : 3 ≤ l.goodRun) :
    l.clearFault = ({ l with level := .normal, latch := none }, .ok) := by
  simp [LevelRecord.clearFault, h, hgood]

theorem clearFault_refused {l : LevelRecord}
    (h : (l.level = .fault ∧ l.goodRun < 3) ∨ l.level = .warning) : l.clearFault = (l, .state) := by
  rcases h with ⟨h, hgood⟩ | h
  · simp [LevelRecord.clearFault, h, Nat.not_le.2 hgood]
  · simp [LevelRecord.clearFault, h]

theorem clearFault_normal {l : LevelRecord} (h : l.level = .normal) : l.clearFault = (l, .ok) := by
  simp [LevelRecord.clearFault, h]

section
variable {f : IsoClearReq} {s : State} {sec : Section} {l : LevelRecord}

theorem isoClearOwner_range (h : 2 ≤ f.section_.toNat) : isoClearOwner f s = (s, bare .range) := by
  unfold isoClearOwner
  rcases sectionOf_of_le h with hs | hs
  · rw [hs]; rfl
  · rw [hs]

/-- R112: a row of the table that leaves the level record as it is only answers. -/
theorem isoClearOwner_kept {st : Status} (hsec : f.section_.toNat = sec.num)
    (hl : s.ism.levelRecord? sec = some l) (h : l.clearFault = (l, st)) :
    isoClearOwner f s = (s, isoClearReply st l) := by
  simp only [isoClearOwner, sectionOf_of_num hsec, hl, h, Ism.withLevel_self hl, if_true]
  rfl

/-- R111, R112: a row that moves the level raises ISO_LEVEL with cause CLEAR and allocates. -/
theorem isoClearOwner_moved {l' : LevelRecord} {st : Status} (hsec : f.section_.toNat = sec.num)
    (hl : s.ism.levelRecord? sec = some l) (h : l.clearFault = (l', st)) (hne : l'.level ≠ l.level) :
    isoClearOwner f s = (allocate (raise (.isoLevel sec l.level l'.level none)
      (s.withIsm (s.ism.withLevel sec l'))), isoClearReply st l') := by
  simp only [isoClearOwner, sectionOf_of_num hsec, hl, h, if_neg hne]
  rfl

theorem exec_isoClear {a : Arrival} (f : IsoClearReq) (h : slotReady s = true) :
    exec (.isoClear a f) s = .next (answered 0x35 (isoClearOwner f (taken a s)).2
      (isoClearOwner f (taken a s)).1) :=
  congrArg Host.Outcome.next (requestArrival_ready h)

end

/-- Settles O21: RANGE for what carries no level, and the four rows by the level record. -/
theorem isoClearFollowsItsTable : Obligations.IsoClearFollowsItsTable := by
  unfold Obligations.IsoClearFollowsItsTable
  intro a f s hready
  rw [exec_isoClear f hready]
  refine ⟨fun h => ?_, fun sec l hsec hl => ?_⟩
  · rw [isoClearOwner_range h]
    rfl
  · have hl' : (taken a s).ism.levelRecord? sec = some l := hl
    refine ⟨fun h hgood => ?_, fun h => ?_, fun h => ?_⟩
    · rw [isoClearOwner_moved hsec hl' (clearFault_cleared h hgood) (by rw [h]; nofun), h]
      rfl
    · rw [isoClearOwner_kept hsec hl' (clearFault_refused h)]
      rfl
    · rw [isoClearOwner_kept hsec hl' (clearFault_normal h), isoClearReply, h]
      rfl

end Sys2Proof.Machine
end

section
/-! PROOFS. BIL's requests (R138 to R163): one equation per outcome of each owner, what the two changes of
the account table leave to a look-up, and the windows and prices of a load; the clock, the band and the
cost; and the statements of the family on them. -/
namespace Sys2Proof.Machine
open Sys2Proof

/-! ## The clock (R137, R138) -/

section
variable {f : TimeSetReq} {s : State}

theorem timeSetOwner_sets (h : f.seconds.toNat ≤ 86399) :
    timeSetOwner f s = (s.withBil { s.bil with
      clock := { valid := true, setDay := f.day.toNat, setSeconds := f.seconds.toNat
                 setInstant := s.time } }, timeReply (readClock s)) := if_pos h

theorem timeSetOwner_range (h : ¬ f.seconds.toNat ≤ 86399) :
    timeSetOwner f s = (s, bare .range) := if_neg h

theorem exec_timeSet {a : Arrival} (f : TimeSetReq) (h : slotReady s = true) :
    exec (.timeSet a f) s = .next (answered 0x48 (timeSetOwner f (taken a s)).2
      (timeSetOwner f (taken a s)).1) :=
  congrArg Host.Outcome.next (requestArrival_ready h)

end

/-- R137: a reading is the setting and the whole seconds since, less whole rounds of 65,536 days. -/
theorem Clock.read_advances (c : Clock) (t : Nat) :
    ∃ wraps, (c.read t).day * 86400 + (c.read t).seconds + wraps * (65536 * 86400)
      = c.setDay * 86400 + c.setSeconds + (t - c.setInstant) / 1000000 := by
  refine ⟨(c.setDay + (c.setSeconds + (t - c.setInstant) / 1000000) / 86400) / 65536, ?_⟩
  simp only [Clock.read]
  omega

/-- Settles O39: the two outcomes of the request, and the reading by division with remainder. -/
theorem theClockIsSetAndAdvances : Obligations.TheClockIsSetAndAdvances := by
  unfold Obligations.TheClockIsSetAndAdvances
  refine ⟨fun a f s hready => ?_, fun c t => ⟨rfl, ?_, ?_, c.read_advances t⟩⟩
  · intro before
    rw [exec_timeSet f hready]
    by_cases h : f.seconds.toNat ≤ 86399
    · rw [timeSetOwner_sets h, if_pos h]
      rfl
    · rw [timeSetOwner_range h, if_neg h]
      rfl
  · exact Nat.mod_lt _ (by decide)
  · exact Nat.mod_lt _ (by decide)

/-! ## The account table (R140) -/

theorem findAccount_eq_none_iff {s : State} {id : Nat} :
    findAccount s id = none ↔ ¬ ∃ e ∈ s.bil.accounts, e.id = id := by
  simp [findAccount]

/-- R141, R142: the account is that of the open session or of the pending start. -/
theorem accountInUse_iff {s : State} {id : Nat} : accountInUse s id = true ↔
    (∃ c, s.seq.ctx = some c ∧ c.account = id)
      ∨ (∃ p, s.seq.pendingStart = some p ∧ p.account = id) := by
  unfold accountInUse
  cases s.seq.ctx <;> cases s.seq.pendingStart <;> simp

section
variable {q : Account} {table : List Account}

theorem putAccount_known (h : ∃ e ∈ table, e.id = q.id) :
    putAccount q table = table.map fun e => if e.id = q.id then q else e :=
  if_pos (by simpa using h)

theorem putAccount_new (h : ¬ ∃ e ∈ table, e.id = q.id) : putAccount q table = table ++ [q] :=
  if_neg (by simpa using h)

/-- Replacing the entries of `q.id` by `q` moves no entry, so a look-up stops at the same place. -/
theorem find?_replace (q : Account) (id : Nat) (table : List Account) :
    (table.map fun e => if e.id = q.id then q else e).find? (fun e => e.id == id)
      = (table.find? fun e => e.id == id).map fun e => if e.id = q.id then q else e := by
  rw [List.find?_map]
  congr 2
  funext e
  simp only [Function.comp_apply]
  split
  · next h => rw [h]
  · rfl

/-- R141: after the change the named account's entry is the one given. -/
theorem find?_putAccount_same (q : Account) (table : List Account) :
    (putAccount q table).find? (fun e => e.id == q.id) = some q := by
  by_cases h : ∃ e ∈ table, e.id = q.id
  · have hsome : (table.find? fun e => e.id == q.id).isSome := by simpa using h
    obtain ⟨e, he⟩ := Option.isSome_iff_exists.1 hsome
    have hid : e.id = q.id := by simpa using List.find?_some he
    rw [putAccount_known h, find?_replace, he, Option.map_some, if_pos hid]
  · have hnone : (table.find? fun e => e.id == q.id) = none := by simpa using h
    rw [putAccount_new h, List.find?_append, hnone]
    simp

/-- R141: every other account's entry stands. -/
theorem find?_putAccount_other {id : Nat} (hne : id ≠ q.id) :
    (putAccount q table).find? (fun e => e.id == id) = table.find? fun e => e.id == id := by
  by_cases h : ∃ e ∈ table, e.id = q.id
  · rw [putAccount_known h, find?_replace]
    cases he : table.find? fun e => e.id == id with
    | none => rfl
    | some e =>
      have hid : e.id = id := by simpa using List.find?_some he
      rw [Option.map_some, if_neg (hid ▸ hne)]
  · rw [putAccount_new h, List.find?_append]
    simp [hne.symm]

theorem length_putAccount_known (h : ∃ e ∈ table, e.id = q.id) :
    (putAccount q table).length = table.length := by
  rw [putAccount_known h, List.length_map]

theorem length_putAccount_new (h : ¬ ∃ e ∈ table, e.id = q.id) :
    (putAccount q table).length = table.length + 1 := by
  rw [putAccount_new h, List.length_append, List.length_singleton]

/-- R142: a removed entry is found no more. -/
theorem find?_removed_same (id : Nat) (table : List Account) :
    (table.filter fun e => e.id != id).find? (fun e => e.id == id) = none := by
  simp

/-- R142: every other account's entry stands. -/
theorem find?_removed_other {id other : Nat} (hne : other ≠ id) :
    (table.filter fun e => e.id != id).find? (fun e => e.id == other)
      = table.find? fun e => e.id == other := by
  rw [List.find?_filter]
  congr 1
  funext e
  by_cases h : e.id = other
  · simp [h, hne]
  · simp [h]

end

/-! ## ACCOUNT_SET (R141) -/

/-- R199: a heater billing outside its set. -/
theorem heaterBillingOf_of_le {b : Byte} (h : 2 ≤ b.toNat) : heaterBillingOf b = none := by
  unfold heaterBillingOf
  split
  · exact absurd h (by decide)
  · exact absurd h (by decide)
  · rfl

theorem heaterBillingOf_of_lt {b : Byte} (h : b.toNat < 2) :
    heaterBillingOf b = some (if b.toNat = 1 then .operator else .account) := by
  have hb : b = 0 ∨ b = 1 := by bv_omega
  rcases hb with rfl | rfl <;> rfl

/-- R141, check 1: a field of ACCOUNT_SET lies outside its range or set. -/
def accountSetFails (f : AccountSetReq) : Prop :=
  f.id.toNat = 0 ∨ 1000000 < f.capWh.toNat ∨ 2 ≤ f.heaterBilling.toNat

/-- R140: the entry ACCOUNT_SET gives. -/
def accountEntry (f : AccountSetReq) : Account :=
  { id := f.id.toNat, capWh := f.capWh.toNat
    billing := if f.heaterBilling.toNat = 1 then .operator else .account }

section
variable {f : AccountSetReq} {s : State}

theorem account?_fails (h : accountSetFails f) : account? f = none := by
  unfold account? Config.maxAccountCap
  split
  · next billing hb =>
    refine if_neg fun ⟨hid, hcap⟩ => ?_
    rcases h with h | h | h
    · exact hid h
    · omega
    · rw [heaterBillingOf_of_le h] at hb
      cases hb
  · rfl

theorem account?_passes (h : ¬ accountSetFails f) : account? f = some (accountEntry f) := by
  unfold accountSetFails at h
  obtain ⟨hid, hcap, hb⟩ : f.id.toNat ≠ 0 ∧ f.capWh.toNat ≤ 1000000 ∧ f.heaterBilling.toNat < 2 := by
    omega
  simp only [account?, heaterBillingOf_of_lt hb]
  exact if_pos ⟨hid, hcap⟩

theorem accountSetOwner_range (h : accountSetFails f) : accountSetOwner f s = (s, bare .range) := by
  simp only [accountSetOwner, account?_fails h]

theorem accountSetOwner_state (h : ¬ accountSetFails f) (hu : accountInUse s f.id.toNat = true) :
    accountSetOwner f s = (s, accountReply .state s) := by
  simp only [accountSetOwner, account?_passes h]
  exact if_pos hu

theorem accountSetOwner_full (h : ¬ accountSetFails f) (hu : ¬ accountInUse s f.id.toNat = true)
    (hfull : findAccount s f.id.toNat = none ∧ 16 ≤ s.bil.accounts.length) :
    accountSetOwner f s = (s, accountReply .full s) := by
  simp only [accountSetOwner, account?_passes h]
  exact (if_neg hu).trans (if_pos hfull)

theorem accountSetOwner_puts (h : ¬ accountSetFails f) (hu : ¬ accountInUse s f.id.toNat = true)
    (hroom : ¬ (findAccount s f.id.toNat = none ∧ 16 ≤ s.bil.accounts.length)) :
    accountSetOwner f s
      = (s.withBil { s.bil with accounts := putAccount (accountEntry f) s.bil.accounts },
          0 :: putU8 (putAccount (accountEntry f) s.bil.accounts).length) := by
  simp only [accountSetOwner, account?_passes h]
  exact (if_neg hu).trans (if_neg hroom)

theorem exec_accountSet {a : Arrival} (f : AccountSetReq) (h : slotReady s = true) :
    exec (.accountSet a f) s = .next (answered 0x49 (accountSetOwner f (taken a s)).2
      (accountSetOwner f (taken a s)).1) :=
  congrArg Host.Outcome.next (requestArrival_ready h)

end

/-! ## ACCOUNT_CLEAR (R142) -/

section
variable {f : AccountClearReq} {s : State}

theorem accountClearOwner_notFound (h : findAccount s f.id.toNat = none) :
    accountClearOwner f s = (s, accountReply .notFound s) := if_pos h

theorem accountClearOwner_state (h : ¬ findAccount s f.id.toNat = none)
    (hu : accountInUse s f.id.toNat = true) :
    accountClearOwner f s = (s, accountReply .state s) := (if_neg h).trans (if_pos hu)

theorem accountClearOwner_removes (h : ¬ findAccount s f.id.toNat = none)
    (hu : ¬ accountInUse s f.id.toNat = true) :
    accountClearOwner f s
      = (s.withBil { s.bil with accounts := s.bil.accounts.filter fun e => e.id != f.id.toNat },
          0 :: putU8 (s.bil.accounts.filter fun e => e.id != f.id.toNat).length) :=
  (if_neg h).trans (if_neg hu)

theorem exec_accountClear {a : Arrival} (f : AccountClearReq) (h : slotReady s = true) :
    exec (.accountClear a f) s = .next (answered 0x4A (accountClearOwner f (taken a s)).2
      (accountClearOwner f (taken a s)).1) :=
  congrArg Host.Outcome.next (requestArrival_ready h)

end

/-- Settles O40: the checks of each request in their order, and the table by what a look-up finds. -/
theorem accountsAreAddedReplacedAndRemoved : Obligations.AccountsAreAddedReplacedAndRemoved := by
  unfold Obligations.AccountsAreAddedReplacedAndRemoved
  refine ⟨fun a f s hready => ?_, fun a f s hready => ?_⟩
  · rw [exec_accountSet f hready]
    have huse := accountInUse_iff (s := taken a s) (id := f.id.toNat)
    have hnone := findAccount_eq_none_iff (s := taken a s) (id := f.id.toNat)
    refine ⟨fun hfails => ?_, fun hpass hu => ?_, fun hpass hu hk hlen => ?_, fun hpass hu hroom => ?_⟩
    · rw [accountSetOwner_range hfails]
      rfl
    · rw [accountSetOwner_state hpass (huse.2 hu)]
      rfl
    · rw [accountSetOwner_full hpass (mt huse.1 hu) ⟨hnone.2 hk, hlen⟩]
      rfl
    · have hput : ¬ (findAccount (taken a s) f.id.toNat = none
          ∧ 16 ≤ (taken a s).bil.accounts.length) := fun ⟨hn, hlen⟩ =>
        hroom.elim (hnone.1 hn) (Nat.not_lt.2 hlen)
      refine ⟨putAccount (accountEntry f) s.bil.accounts, ?_, find?_putAccount_same (accountEntry f) _,
        fun id hne => find?_putAccount_other hne, length_putAccount_known (q := accountEntry f),
        length_putAccount_new (q := accountEntry f)⟩
      rw [accountSetOwner_puts hpass (mt huse.1 hu) hput]
      rfl
  · rw [exec_accountClear f hready]
    have huse := accountInUse_iff (s := taken a s) (id := f.id.toNat)
    have hnone := findAccount_eq_none_iff (s := taken a s) (id := f.id.toNat)
    refine ⟨fun hk => ?_, fun hk hu => ?_, fun hk hu => ?_⟩
    · rw [accountClearOwner_notFound (hnone.2 hk)]
      rfl
    · rw [accountClearOwner_state (fun hn => hnone.1 hn hk) (huse.2 hu)]
      rfl
    · refine ⟨s.bil.accounts.filter fun e => e.id != f.id.toNat, ?_, find?_removed_same _ _,
        fun id hne => find?_removed_other hne⟩
      rw [accountClearOwner_removes (fun hn => hnone.1 hn hk) (mt huse.1 hu)]
      rfl

/-! ## TARIFF_LOAD (R146, R147) -/

theorem inRange_iff {lo hi n : Nat} : inRange lo hi n = true ↔ lo ≤ n ∧ n ≤ hi := decide_eq_true_iff

/-- The check of neighbours is a check of every pair. -/
theorem strictlyRising_iff (l : List Int) : strictlyRising l = true ↔ l.Pairwise (· < ·) := by
  induction l using strictlyRising.induct with
  | case1 => exact iff_of_true rfl .nil
  | case2 x => exact iff_of_true rfl (List.pairwise_singleton _ x)
  | case3 x y rest ih =>
    rw [strictlyRising, Bool.and_eq_true, decide_eq_true_iff, ih,
      List.pairwise_cons (a := x)]
    refine and_congr_left fun hrest => ?_
    refine ⟨fun hxy z hz => ?_, fun hx => hx y List.mem_cons_self⟩
    rcases List.mem_cons.1 hz with rfl | hz
    · exact hxy
    · exact Int.lt_trans hxy (List.rel_of_pairwise_cons hrest hz)

/-- R146: the start and the band of one window lie in their ranges. -/
def windowPass (w : Half × Byte) : Prop := w.1.toNat ≤ 1439 ∧ w.2.toNat ≤ 3

/-- R144: the window a passing one is loaded as. -/
def loadedWindow (w : Half × Byte) : Nat × Fin 4 := (w.1.toNat, Fin.ofNat 4 w.2.toNat)

theorem window?_pass {w : Half × Byte} (h : windowPass w) : window? w = some (loadedWindow w) := by
  obtain ⟨hstart, hband⟩ := h
  have hlt : w.2.toNat < 4 := by omega
  unfold window?
  rw [dif_pos hlt, if_pos hstart]
  exact congrArg (fun b => some (w.1.toNat, b)) (Fin.ext (Nat.mod_eq_of_lt hlt).symm)

theorem window?_fail {w : Half × Byte} (h : ¬ windowPass w) : window? w = none := by
  unfold window?
  split
  · next hlt => exact if_neg fun hstart => h ⟨hstart, by omega⟩
  · rfl

theorem mapM_window?_pass {ws : List (Half × Byte)} (h : ∀ w ∈ ws, windowPass w) :
    ws.mapM window? = some (ws.map loadedWindow) := by
  induction ws with
  | nil => rfl
  | cons w ws ih =>
    obtain ⟨hw, hws⟩ := List.forall_mem_cons.1 h
    rw [List.mapM_cons, window?_pass hw, ih hws]
    rfl

theorem mapM_window?_fail {ws : List (Half × Byte)} (h : ¬ ∀ w ∈ ws, windowPass w) :
    ws.mapM window? = none := by
  induction ws with
  | nil => exact absurd (by simp) h
  | cons w ws ih =>
    rw [List.mapM_cons]
    by_cases hw : windowPass w
    · rw [window?_pass hw, ih fun hws => h (List.forall_mem_cons.2 ⟨hw, hws⟩)]
      rfl
    · rw [window?_fail hw]
      rfl

/-- The loaded windows are the request's, field by field. -/
theorem map_loadedWindow {ws : List (Half × Byte)} (h : ∀ w ∈ ws, windowPass w) :
    (ws.map loadedWindow).map (fun w => (w.1, w.2.val)) = ws.map fun w => (w.1.toNat, w.2.toNat) := by
  rw [List.map_map]
  refine List.map_congr_left fun w hw => ?_
  obtain ⟨-, hband⟩ := h w hw
  exact congrArg (Prod.mk w.1.toNat) (Nat.mod_eq_of_lt (by omega))

/-- R144: the four prices of a load. -/
def loadedPrices (f : TariffLoadReq) : Vector Nat 4 :=
  #v[f.price0.toNat, f.price1.toNat, f.price2.toNat, f.price3.toNat]

/-- R147: the table a load gives, with its generation. -/
def loadedTable (f : TariffLoadReq) (b : Bil) : Tariff :=
  { generation := loadGeneration b, windows := f.windows.map loadedWindow, prices := loadedPrices f }

section
variable {f : TariffLoadReq} {s : State}

theorem strictlyRising_loaded (f : TariffLoadReq) :
    strictlyRising ((f.windows.map loadedWindow).map fun w => Int.ofNat w.1) = true
      ↔ (f.windows.map fun w => w.1.toNat).Pairwise (· < ·) := by
  simp [strictlyRising_iff, List.pairwise_map, loadedWindow]

theorem tariff?_pass (h : tariffPass f) :
    tariff? f = some (f.windows.map loadedWindow, loadedPrices f) := by
  obtain ⟨hlo, hhi, hw, hrise, h0, h1, h2, h3⟩ := h
  simp only [tariff?, mapM_window?_pass hw]
  exact if_pos (by
    simp only [Bool.and_eq_true, inRange_iff, strictlyRising_loaded, List.length_map]
    exact ⟨⟨⟨⟨⟨⟨hlo, hhi⟩, Nat.zero_le _, h0⟩, Nat.zero_le _, h1⟩, Nat.zero_le _, h2⟩,
      Nat.zero_le _, h3⟩, hrise⟩)

theorem tariff?_fail (h : ¬ tariffPass f) : tariff? f = none := by
  by_cases hw : ∀ w ∈ f.windows, windowPass w
  · simp only [tariff?, mapM_window?_pass hw]
    refine if_neg fun hc => h ?_
    simp only [Bool.and_eq_true, inRange_iff, strictlyRising_loaded, List.length_map] at hc
    obtain ⟨⟨⟨⟨⟨⟨hlo, hhi⟩, -, h0⟩, -, h1⟩, -, h2⟩, -, h3⟩, hrise⟩ := hc
    exact ⟨hlo, hhi, hw, hrise, h0, h1, h2, h3⟩
  · simp only [tariff?, mapM_window?_fail hw]

theorem tariffLoadOwner_range (h : ¬ tariffPass f) :
    tariffLoadOwner f s = (s, tariffReply .range 2 s.bil) := by
  simp only [tariffLoadOwner, tariff?_fail h]

theorem tariffLoadOwner_waits (h : tariffPass f) (hw : loadWaits s = true) :
    tariffLoadOwner f s
      = (s.withBil { s.bil with pendingTariff := some (loadedTable f s.bil) },
          tariffReply .ok 1 { s.bil with pendingTariff := some (loadedTable f s.bil) }) := by
  simp only [tariffLoadOwner, tariff?_pass h]
  exact if_pos hw

theorem tariffLoadOwner_active (h : tariffPass f) (hw : ¬ loadWaits s = true) :
    tariffLoadOwner f s
      = (s.withBil { s.bil with active := loadedTable f s.bil, pendingTariff := none },
          tariffReply .ok 0 { s.bil with active := loadedTable f s.bil, pendingTariff := none }) := by
  simp only [tariffLoadOwner, tariff?_pass h]
  exact if_neg hw

/-- R147: a load waits exactly while a session is open or a start stands. -/
theorem loadWaits_iff : loadWaits s = true ↔
    s.seq.ctx.isSome = true ∨ s.seq.pendingStart.isSome = true := Bool.or_eq_true_iff

theorem exec_tariffLoad {a : Arrival} (f : TariffLoadReq) (h : slotReady s = true) :
    exec (.tariffLoad a f) s = .next (answered 0x4B (tariffLoadOwner f (taken a s)).2
      (tariffLoadOwner f (taken a s)).1) :=
  congrArg Host.Outcome.next (requestArrival_ready h)

end

/-- The reply's pending generation is 0 without a pending table. -/
theorem tariffReply_eq (st : Status) (placement : Nat) (b : Bil) :
    tariffReply st placement b
      = st.code :: putU8 b.active.generation ++ putU8 (if b.pendingTariff.isSome then 1 else 0)
        ++ putU8 ((b.pendingTariff.map Tariff.generation).getD 0) ++ putU8 placement := by
  unfold tariffReply boolCode
  cases b.pendingTariff <;> rfl

/-- Settles O41: a load that fails, one that waits and one that becomes active. -/
theorem tariffLoadPlacesTheTable : Obligations.TariffLoadPlacesTheTable := by
  unfold Obligations.TariffLoadPlacesTheTable
  intro a f s hready
  rw [exec_tariffLoad f hready]
  refine ⟨fun hfail => ?_, fun hpass => ?_⟩
  · rw [tariffLoadOwner_range hfail, tariffReply_eq]
    rfl
  · have ⟨_, _, hwindows, _⟩ := hpass
    refine ⟨loadedTable f s.bil, map_loadedWindow hwindows, rfl, rfl, fun hw => ?_,
      fun hctx hstart => ?_⟩
    · rw [tariffLoadOwner_waits (s := taken a s) hpass (loadWaits_iff.2 hw)]
      rfl
    · have hw : ¬ loadWaits (taken a s) = true := by simp [loadWaits_iff, taken, hctx, hstart]
      rw [tariffLoadOwner_active hpass hw]
      rfl

/-! ## The cost (R156) and the band (R145) -/

theorem OpenRecord.billable_eq (r : OpenRecord) (b : Fin 4) :
    r.billable b = if r.billing = .operator then r.band[b] - r.heaterBand[b] else r.band[b] := by
  unfold OpenRecord.billable
  cases r.billing <;> rfl

/-- Adding half a milli-unit before the division rounds to the nearest one, a half going up. -/
theorem capAt_max32_nearest (x : Nat) :
    (x + 500 < 4294967296000 →
      capAt Config.max32 ((x + 500) / 1000) * 1000 ≤ x + 500
        ∧ x + 500 < capAt Config.max32 ((x + 500) / 1000) * 1000 + 1000)
    ∧ (4294967296000 ≤ x + 500 → capAt Config.max32 ((x + 500) / 1000) = 4294967295) := by
  unfold capAt Config.max32
  split <;> omega

/-- In a table of strictly rising starts the window with the latest start is the last. -/
theorem getLast?_of_latest {ws : List (Nat × Fin 4)} {w : Nat × Fin 4}
    (hrise : (ws.map (·.1)).Pairwise (· < ·)) (hmem : w ∈ ws) (hmax : ∀ v ∈ ws, v.1 ≤ w.1) :
    ws.getLast? = some w := by
  cases h : ws.getLast? with
  | none =>
    rw [List.getLast?_eq_none_iff.1 h] at hmem
    cases hmem
  | some last =>
    obtain ⟨front, rfl⟩ := List.getLast?_eq_some_iff.1 h
    rcases List.mem_append.1 hmem with hfront | hlast
    · rw [List.pairwise_map, List.pairwise_append] at hrise
      obtain ⟨-, -, hrises⟩ := hrise
      have hlt : w.1 < last.1 := hrises w hfront last (List.mem_singleton_self last)
      exact absurd (hmax last (by simp)) (Nat.not_le.2 hlt)
    · rw [List.mem_singleton.1 hlast]

/-- R145: the last window that has started is in force. -/
theorem windowBand_started {ws : List (Nat × Fin 4)} {w : Nat × Fin 4} {minute : Nat}
    (hrise : (ws.map (·.1)).Pairwise (· < ·)) (hmem : w ∈ ws) (hle : w.1 ≤ minute)
    (hmax : ∀ v ∈ ws, v.1 ≤ minute → v.1 ≤ w.1) : windowBand ws minute = w.2 := by
  have hlast : (ws.filter fun v => decide (v.1 ≤ minute)).getLast? = some w := by
    refine getLast?_of_latest (hrise.sublist (List.filter_sublist.map _)) (by simp [hmem, hle])
      fun v hv => ?_
    obtain ⟨hv, hstarted⟩ := List.mem_filter.1 hv
    exact hmax v hv (of_decide_eq_true hstarted)
  simp only [windowBand, hlast]

/-- R145: before the first start the last window runs on past midnight. -/
theorem windowBand_before {ws : List (Nat × Fin 4)} {w : Nat × Fin 4} {minute : Nat}
    (hlast : ws.getLast? = some w) (hlt : ∀ v ∈ ws, minute < v.1) : windowBand ws minute = w.2 := by
  have hnone : (ws.filter fun v => decide (v.1 ≤ minute)) = [] := by simpa using hlt
  simp only [windowBand, hnone, List.getLast?_nil, hlast]

theorem bandOf_invalid {t : Tariff} {r : ClockReading} (h : r.valid = false) : bandOf t r = 0 := by
  simp [bandOf, h]

theorem bandOf_valid {t : Tariff} {r : ClockReading} (h : r.valid = true) :
    bandOf t r = windowBand t.windows (r.seconds / 60) := if_pos h

/-- Settles O42: the cost by rounding and its limit, the band by the window in force. -/
theorem theBandAndTheCostOfARecord : Obligations.TheBandAndTheCostOfARecord := by
  unfold Obligations.TheBandAndTheCostOfARecord
  refine ⟨fun r t => ?_, fun t r hrise => ⟨bandOf_invalid, ?_, ?_⟩⟩
  · simp only [OpenRecord.cost, OpenRecord.billable_eq]
    exact capAt_max32_nearest _
  · intro w hmem hvalid hle hmax
    rw [bandOf_valid hvalid, windowBand_started hrise hmem hle hmax]
  · intro w hvalid hlast hlt
    rw [bandOf_valid hvalid, windowBand_before hlast hlt]

/-! ## RECORD_DROP (R161) and SEQ_BASE_SET (R163) -/

section
variable {f : RecordDropReq} {s : State} {q : ClosedRecord} {rest : List ClosedRecord}

theorem recordDropOwner_empty (h : s.bil.queue = []) :
    recordDropOwner f s = (s, 9 :: putU8 0 ++ putU8 (freePlaces s) ++ putU32 0) := by
  simp only [recordDropOwner, dropReply, h]
  rfl

theorem recordDropOwner_mismatch (h : s.bil.queue = q :: rest) (hne : f.sequence.toNat ≠ q.sequence) :
    recordDropOwner f s
      = (s, 10 :: putU8 (rest.length + 1) ++ putU8 (freePlaces s) ++ putU32 q.sequence) := by
  simp only [recordDropOwner, dropReply, h, if_neg hne]
  rfl

theorem recordDropOwner_drops (h : s.bil.queue = q :: rest) (heq : f.sequence.toNat = q.sequence) :
    recordDropOwner f s
      = (s.withBil { s.bil with queue := rest },
          dropReply .ok (s.withBil { s.bil with queue := rest })) := by
  simp only [recordDropOwner, h, if_pos heq]

theorem exec_recordDrop {a : Arrival} (f : RecordDropReq) (h : slotReady s = true) :
    exec (.recordDrop a f) s = .next (answered 0x4D (recordDropOwner f (taken a s)).2
      (recordDropOwner f (taken a s)).1) :=
  congrArg Host.Outcome.next (requestArrival_ready h)

end

section
variable {f : SeqBaseSetReq} {s : State}

theorem seqBaseSetOwner_sets (h : s.bil.queue = [] ∧ s.seq.state = .idle) :
    seqBaseSetOwner f s
      = (s.withBil { s.bil with counter := f.base.toNat }, 0 :: putWord f.base) := if_pos h

theorem seqBaseSetOwner_state (h : ¬ (s.bil.queue = [] ∧ s.seq.state = .idle)) :
    seqBaseSetOwner f s = (s, 3 :: putU32 s.bil.counter) := if_neg h

theorem exec_seqBaseSet {a : Arrival} (f : SeqBaseSetReq) (h : slotReady s = true) :
    exec (.seqBaseSet a f) s = .next (answered 0x4E (seqBaseSetOwner f (taken a s)).2
      (seqBaseSetOwner f (taken a s)).1) :=
  congrArg Host.Outcome.next (requestArrival_ready h)

end

/-- Settles O43: the three outcomes of RECORD_DROP by the queue, and the two of SEQ_BASE_SET. -/
theorem recordDropAndSeqBaseSet : Obligations.RecordDropAndSeqBaseSet := by
  unfold Obligations.RecordDropAndSeqBaseSet
  refine ⟨fun a f s hready => ?_, fun a f s hready => ?_⟩
  · rw [exec_recordDrop f hready]
    refine ⟨fun hq => ?_, fun q rest hq => ⟨fun hne => ?_, fun heq => ⟨_, rfl, ?_⟩⟩⟩
    · rw [recordDropOwner_empty (s := taken a s) hq]
      rfl
    · rw [recordDropOwner_mismatch (s := taken a s) hq hne]
      rfl
    · rw [recordDropOwner_drops (s := taken a s) hq heq]
      rfl
  · rw [exec_seqBaseSet f hready]
    refine ⟨fun hq hidle => ?_, fun h => ?_⟩
    · rw [seqBaseSetOwner_sets (s := taken a s) ⟨hq, hidle⟩]
      rfl
    · rw [seqBaseSetOwner_state (s := taken a s) (Decidable.not_and_iff_or_not.2 h)]
      rfl

end Sys2Proof.Machine
end

section
/-! PROOFS. EVT's records, sets and requests (R166 to R174), the taking of the outbound side (R188) and
the data of a notice (section 10.8); and the statements of the family on them. -/
namespace Sys2Proof.Machine
open Sys2Proof

/-! ## The kinds' records -/

section
variable (e : Evt) (k j : Fin 14) (r : KindRecord)

@[simp] theorem Evt.at_setAt_same : (e.setAt k r).at k = r := by
  simp [Evt.at, Evt.setAt]

theorem Evt.at_setAt_of_ne (h : j ≠ k) : (e.setAt k r).at j = e.at j := by
  simp [Evt.at, Evt.setAt, Vector.getElem_set_ne _ _ (Fin.val_ne_of_ne h.symm)]

/-- R169: once its notice is taken a kind is no longer owed one; no other record changes. -/
theorem Evt.at_setAt_notOwed : (e.setAt k { e.at k with owed := false }).at j
    = if j = k then { e.at j with owed := false } else e.at j := by
  by_cases h : j = k
  · rw [if_pos h, h, Evt.at_setAt_same]
  · rw [if_neg h, Evt.at_setAt_of_ne e k j _ h]

/-- A change by mask reaches the named kinds and no other. -/
theorem Evt.at_onMask (kinds : Half) (f : KindRecord → KindRecord) :
    (e.onMask kinds f).at k = if kinds.getLsbD k then f (e.at k) else e.at k := by
  simp [Evt.at, Evt.onMask]

end

theorem Route.notifies_eq (r : Route) : r.notifies = (r == .notice || r == .both) := by
  cases r <;> rfl

theorem Route.alerts_iff (r : Route) : r.alerts = true ↔ r = .alert ∨ r = .both := by
  cases r <;> simp [Route.alerts]

/-! ## The sets (R166, R169, R196) and ALERT (R170) -/

theorem kindNumbers_eq_finRange : kindNumbers = List.finRange 14 := by decide

theorem mem_kindNumbers (k : Fin 14) : k ∈ kindNumbers := by
  rw [kindNumbers_eq_finRange]
  exact List.mem_finRange k

/-- The sum of 2 ^ k over the places k that `f` names. -/
def maskOf {n : Nat} (f : Fin n → Bool) : Nat :=
  (List.finRange n).foldl (fun m k => if f k then m + 2 ^ k.val else m) 0

theorem maskOf_succ {n : Nat} (f : Fin (n + 1) → Bool) :
    maskOf f = if f (Fin.last n) then maskOf (fun k => f k.castSucc) + 2 ^ n
      else maskOf fun k => f k.castSucc := by
  simp only [maskOf, List.finRange_succ_last, List.foldl_append, List.foldl_map, List.foldl_cons,
    List.foldl_nil, Fin.val_last, Fin.val_castSucc]

theorem maskOf_lt {n : Nat} (f : Fin n → Bool) : maskOf f < 2 ^ n := by
  induction n with
  | zero => exact Nat.zero_lt_one
  | succ n ih =>
    have hbelow := ih fun k => f k.castSucc
    rw [maskOf_succ, Nat.pow_succ]
    split <;> omega

/-- The powers are distinct, so none of them carries into another's bit. -/
theorem testBit_maskOf {n : Nat} (f : Fin n → Bool) (k : Fin n) :
    (maskOf f).testBit k = f k := by
  induction n with
  | zero => exact k.elim0
  | succ n ih =>
    have hbelow : (maskOf fun k => f k.castSucc).testBit n = false :=
      Nat.testBit_lt_two_pow (maskOf_lt _)
    rw [maskOf_succ]
    cases k using Fin.lastCases with
    | last =>
      cases hlast : f (Fin.last n) with
      | false => exact hbelow
      | true =>
        rw [if_pos rfl, Nat.add_comm, Fin.val_last, Nat.testBit_two_pow_add_eq, hbelow]
        rfl
    | cast k =>
      split
      · rw [Nat.add_comm, Fin.val_castSucc, Nat.testBit_two_pow_add_gt k.isLt]
        exact ih (fun k => f k.castSucc) k
      · exact ih (fun k => f k.castSucc) k

theorem Evt.mask_eq_maskOf (e : Evt) (p : KindRecord → Bool) :
    e.mask p = maskOf fun k => p (e.at k) := by
  rw [Evt.mask, maskOf, kindNumbers_eq_finRange]

/-- R196: kind n is bit n. -/
theorem Evt.testBit_mask (e : Evt) (p : KindRecord → Bool) (k : Fin 14) :
    (e.mask p).testBit k = p (e.at k) := by
  rw [e.mask_eq_maskOf, testBit_maskOf]

theorem Evt.mask_lt (e : Evt) (p : KindRecord → Bool) : e.mask p < 2 ^ 14 := by
  rw [e.mask_eq_maskOf]
  exact maskOf_lt _

theorem Evt.alert_iff (e : Evt) : e.alert = true ↔ ∃ k : Fin 14, (e.at k).pending = true
    ∧ ((e.at k).route = .alert ∨ (e.at k).route = .both) := by
  simp [Evt.alert, mem_kindNumbers, Route.alerts_iff]

/-- R169: the notice taken first is that of the owed kind with no owed kind below it. -/
theorem Evt.lowestOwed_eq_some {e : Evt} {k : Fin 14} (hk : (e.at k).owed = true)
    (hbelow : ∀ j : Fin 14, j < k → (e.at j).owed = false) : e.lowestOwed = some k := by
  rw [Evt.lowestOwed, kindNumbers_eq_finRange, List.find?_eq_some_iff_getElem]
  refine ⟨hk, k.val, by simp, by simp, fun j hj => ?_⟩
  have hskip := hbelow ⟨j, Nat.lt_trans hj k.isLt⟩ hj
  simpa using hskip

theorem Evt.lowestOwed_eq_none {e : Evt} (h : ∀ j : Fin 14, (e.at j).owed = false) :
    e.lowestOwed = none := by
  simp [Evt.lowestOwed, h]

/-- Settles O44: the raised kind's record and the others by their place, the sets by bit. -/
theorem aRaiseTakesItsFourSteps : Obligations.ARaiseTakesItsFourSteps := by
  unfold Obligations.ARaiseTakesItsFourSteps
  refine ⟨fun d s => ⟨?_, fun j hj => ?_, rfl⟩, fun e => ⟨fun k => ?_, ?_, ?_, ?_⟩⟩
  · rw [← Route.notifies_eq]
    exact s.evt.at_setAt_same d.kind.num _
  · exact s.evt.at_setAt_of_ne d.kind.num j _ hj
  · exact ⟨e.testBit_mask (·.pending) k, e.testBit_mask (·.owed) k⟩
  · exact e.mask_lt (·.pending)
  · exact e.mask_lt (·.owed)
  · exact e.alert_iff

/-! ## ROUTE_SET (R173) -/

theorem routeOf_eq_none {b : Byte} (h : 4 ≤ b.toNat) : routeOf b = none := by
  unfold routeOf
  split
  · exact absurd h (by decide)
  · exact absurd h (by decide)
  · exact absurd h (by decide)
  · exact absurd h (by decide)
  · rfl

theorem kindsMaskOk_iff {kinds : Half} : kindsMaskOk kinds = true ↔ kinds.toNat < 2 ^ 14 :=
  decide_eq_true_iff

section
variable {f : RouteSetReq} {s : State}

theorem routeSetOwner_range (h : 2 ^ 14 ≤ f.kinds.toNat ∨ 4 ≤ f.route.toNat) :
    routeSetOwner f s = (s, bare .range) := by
  unfold routeSetOwner
  rcases h with hkinds | hroute
  · split
    · rfl
    · exact if_neg (mt kindsMaskOk_iff.1 (Nat.not_lt.2 hkinds))
  · rw [routeOf_eq_none hroute]

theorem routeSetOwner_sets {route : Route} (hkinds : f.kinds.toNat < 2 ^ 14)
    (hroute : routeOf f.route = some route) :
    routeSetOwner f s
      = (s.withEvt (s.evt.onMask f.kinds (KindRecord.setRoute route)),
          routeReply (s.evt.onMask f.kinds (KindRecord.setRoute route))) := by
  simp only [routeSetOwner, hroute]
  exact if_pos (kindsMaskOk_iff.2 hkinds)

theorem exec_routeSet {a : Arrival} (f : RouteSetReq) (h : slotReady s = true) :
    exec (.routeSet a f) s = .next (answered 0x58 (routeSetOwner f (taken a s)).2
      (routeSetOwner f (taken a s)).1) :=
  congrArg Host.Outcome.next (requestArrival_ready h)

end

/-! ## EVENTS_CLEAR (R174) -/

section
variable {f : EventsClearReq} {s : State}

theorem eventsClearOwner_range (h : 2 ^ 14 ≤ f.kinds.toNat) :
    eventsClearOwner f s = (s, bare .range) :=
  if_neg (mt kindsMaskOk_iff.1 (Nat.not_lt.2 h))

theorem eventsClearOwner_clears (h : f.kinds.toNat < 2 ^ 14) :
    eventsClearOwner f s
      = (s.withEvt (s.evt.onMask f.kinds KindRecord.clear),
          clearReply s.evt (s.evt.onMask f.kinds KindRecord.clear)) :=
  if_pos (kindsMaskOk_iff.2 h)

theorem exec_eventsClear {a : Arrival} (f : EventsClearReq) (h : slotReady s = true) :
    exec (.eventsClear a f) s = .next (answered 0x59 (eventsClearOwner f (taken a s)).2
      (eventsClearOwner f (taken a s)).1) :=
  congrArg Host.Outcome.next (requestArrival_ready h)

end

/-- R174: the fourteen counts of EVENTS_CLEAR's reply, in kind-number order. -/
def kindCountBytes (e : Evt) : List Byte := kindNumbers.flatMap fun k => putU8 (e.at k).count

theorem kindCountBytes_eq_map (e : Evt) :
    kindCountBytes e = (List.finRange 14).map fun k => byteOf (e.at k).count := by
  rw [kindCountBytes, kindNumbers_eq_finRange]
  exact List.map_eq_flatMap.symm

theorem length_kindCountBytes (e : Evt) : (kindCountBytes e).length = 14 := by
  simp [kindCountBytes_eq_map]

theorem getElem?_kindCountBytes (e : Evt) (k : Fin 14) :
    (kindCountBytes e)[k.val]? = some (byteOf (e.at k).count) := by
  simp [kindCountBytes_eq_map]

/-- Settles O45: each request by its check, and a named kind by the mask's reach. -/
theorem routesAndClearsTouchTheNamedKinds : Obligations.RoutesAndClearsTouchTheNamedKinds := by
  unfold Obligations.RoutesAndClearsTouchTheNamedKinds
  refine ⟨fun a f s hready => ?_, fun a f s hready => ?_⟩
  · rw [exec_routeSet f hready]
    refine ⟨fun h => ?_, fun route hkinds hroute =>
      ⟨s.evt.onMask f.kinds (KindRecord.setRoute route), ?_, fun k => ?_⟩⟩
    · rw [routeSetOwner_range h]
      rfl
    · rw [routeSetOwner_sets hkinds hroute]
      rfl
    · rw [← Route.notifies_eq]
      exact s.evt.at_onMask k f.kinds (KindRecord.setRoute route)
  · rw [exec_eventsClear f hready]
    refine ⟨fun h => ?_, fun h =>
      ⟨s.evt.onMask f.kinds KindRecord.clear, kindCountBytes s.evt, length_kindCountBytes s.evt,
        getElem?_kindCountBytes s.evt, ?_, fun k => s.evt.at_onMask k f.kinds KindRecord.clear⟩⟩
    · rw [eventsClearOwner_range h]
      rfl
    · rw [eventsClearOwner_clears h]
      rfl

/-! ## What a FREE outbound side takes (R188) -/

/-- R178, R188: a frame that goes to the line now, 40 µs a byte. -/
theorem sendFrame_eq (kind : Byte) (p : List Byte) (restart : Bool) (s : State) :
    sendFrame kind p restart s = s.withLnk { s.lnk with
      out := .sending (frameBytes kind p) (s.time + 40 * (frameBytes kind p).length) restart } := by
  rw [Nat.mul_comm]
  rfl

/-- R178: the arrival of OUTBOUND_FRAME_SENT at the frame's end, before the side takes the next item. -/
def lineFreed (a : Arrival) (s : State) : State :=
  (arrive a s).withLnk { s.lnk with out := .free }

section
variable {s : State}

theorem pump_not_free (h : s.lnk.out ≠ .free) : pump s = s := by
  cases hout : s.lnk.out with
  | free => exact absurd hout h
  | sending bytes ends restart => exact pump_sending hout

theorem pump_reply {q : SlotRequest} (hfree : s.lnk.out = .free) (hslot : s.lnk.slot = some q) :
    pump s = takeReply q s := by
  simp only [pump, hfree, hslot]

theorem pump_busy {k : Byte} (hfree : s.lnk.out = .free) (hslot : s.lnk.slot = none)
    (hbusy : s.lnk.owedBusy = some k) : pump s = takeBusy k s := by
  simp only [pump, hfree, hslot, hbusy]

theorem pump_notice {k : Fin 14} (hfree : s.lnk.out = .free) (hslot : s.lnk.slot = none)
    (hbusy : s.lnk.owedBusy = none) (howed : s.evt.lowestOwed = some k) :
    pump s = takeNotice k s := by
  simp only [pump, hfree, hslot, hbusy, howed]

theorem pump_nothing (hslot : s.lnk.slot = none) (hbusy : s.lnk.owedBusy = none)
    (howed : s.evt.lowestOwed = none) : pump s = s := by
  simp only [pump, hslot, hbusy, howed]
  split <;> rfl

/-- R188: the end of a frame that carries no restart frees the side, which then takes what waits. -/
theorem exec_outboundFrameSent {a : Arrival} {bytes : List Byte} {ends : Nat}
    (hout : s.lnk.out = .sending bytes ends false) (hends : ends ≤ s.time + a.elapsed) :
    exec (.outboundFrameSent a) s
      = .next (pump (lineFreed a s)) := by
  have hsent : frameSent (arrive a s) = lineFreed a s := by
    simp [frameSent, lineFreed, hout, hends]
  exact congrArg (fun t => Host.Outcome.next (pump t)) hsent

end

theorem takeReply_eq (q : SlotRequest) (s : State) :
    takeReply q s = s.withLnk { s.lnk with
      slot := none
      out := .sending (frameBytes (q.kind ||| 0x80) q.reply)
        (s.time + 40 * (frameBytes (q.kind ||| 0x80) q.reply).length)
        (s.lnk.restartPending && q.kind == 0x61) } :=
  sendFrame_eq _ _ _ _

theorem takeBusy_eq (k : Byte) (s : State) :
    takeBusy k s = s.withLnk { s.lnk with
      owedBusy := none
      out := .sending (frameBytes (k ||| 0x80) [2])
        (s.time + 40 * (frameBytes (k ||| 0x80) [2]).length) false } :=
  sendFrame_eq _ _ _ _

theorem takeNotice_eq (k : Fin 14) (s : State) :
    takeNotice k s = (s.withEvt (s.evt.setAt k { s.evt.at k with owed := false })).withLnk { s.lnk with
      out := .sending (frameBytes 0x70 (noticePayload s.evt k (s.time / 1000)))
        (s.time + 40 * (frameBytes 0x70 (noticePayload s.evt k (s.time / 1000))).length) false
      counts := { s.lnk.counts with notices := bump16 s.lnk.counts.notices } } :=
  sendFrame_eq _ _ _ _

/-! ## The data of a notice (R171, section 10.8) -/

theorem ageMs_eq_min (now instant : Nat) : ageMs now instant = min (now - instant) 4294967295 :=
  (Nat.min_def ..).symm

theorem ageMs_self (instant : Nat) : ageMs instant instant = 0 := by
  simp [ageMs_eq_min]

theorem noticePayload_latest {e : Evt} {k : Fin 14} {now at_ : Nat} {d : EventData}
    (h : (e.at k).latest = some (at_, d)) :
    noticePayload e k now = putU8 k.val ++ putU8 (e.at k).count ++ putU16 e.pendingSet
      ++ putU32 (min (now - at_) 4294967295) ++ d.bytes := by
  simp only [noticePayload, h, ageMs_eq_min]

/-- Section 10.8: a run that has ended carries its duration and its end cause. -/
theorem putRun_ended {q : RunRecord} {stop : Nat} {cause : HeatEnd} (h : q.ended = some (stop, cause)) :
    putRun (some q) = putU8 1 ++ putU32 (min (stop - q.start) 4294967295) ++ putI32 q.packEnergy
      ++ putU32 q.heaterEnergy ++ putU8 q.highest.code ++ putU8 cause.code := by
  simp only [putRun, h, ageMs_eq_min]
  rfl

/-- Section 10.8: a run still active carries the duration 0 and no end cause. -/
theorem putRun_active {q : RunRecord} (h : q.ended = none) :
    putRun (some q) = putU8 1 ++ putU32 0 ++ putI32 q.packEnergy
      ++ putU32 q.heaterEnergy ++ putU8 q.highest.code ++ putU8 0 := by
  simp only [putRun, h, ageMs_self]
  rfl

/-- Settles O52: the four takings of a FREE side in their order, at the end of a frame and at the end of
any arrival; and the notice's data by the kind of the occurrence. -/
theorem theOutboundSideTakesInOrder : Obligations.TheOutboundSideTakesInOrder := by
  unfold Obligations.TheOutboundSideTakesInOrder
  refine ⟨fun a bytes ends s hout hends => ?_, fun s => ?_, fun e k now at_ d hlatest => ?_⟩
  · intro now frame
    rw [exec_outboundFrameSent hout hends]
    refine ⟨fun q hslot => ?_, fun k hslot hbusy => ?_, fun k hslot hbusy hk hbelow => ?_,
      fun hslot hbusy howed => ?_⟩
    · rw [pump_reply (s := lineFreed a s) rfl hslot, takeReply_eq]
      rfl
    · rw [pump_busy (s := lineFreed a s) rfl hslot hbusy, takeBusy_eq]
      rfl
    · have hlow := Evt.lowestOwed_eq_some hk hbelow
      refine ⟨_, s.evt.at_setAt_notOwed k, ?_⟩
      rw [pump_notice (s := lineFreed a s) rfl hslot hbusy hlow, takeNotice_eq]
      rfl
    · rw [pump_nothing (s := lineFreed a s) hslot hbusy (Evt.lowestOwed_eq_none howed)]
      rfl
  · intro frame
    refine ⟨pump_not_free, fun q hfree hslot => ?_, fun k hfree hslot hbusy => ?_,
      fun k hfree hslot hbusy hk hbelow => ?_, fun hslot hbusy howed => ?_⟩
    · exact (pump_reply hfree hslot).trans (takeReply_eq q s)
    · exact (pump_busy hfree hslot hbusy).trans (takeBusy_eq k s)
    · have hlow := Evt.lowestOwed_eq_some hk hbelow
      exact ⟨_, s.evt.at_setAt_notOwed k,
        (pump_notice hfree hslot hbusy hlow).trans (takeNotice_eq k s)⟩
    · exact pump_nothing hslot hbusy (Evt.lowestOwed_eq_none howed)
  · intro flag cause16 causeHeat
    rw [noticePayload_latest hlatest]
    congr 1
    cases d with
    | restarted warm => rfl
    | contactorFault c held => rfl
    | isoLevel sec before after cause => cases cause <;> rfl
    | mainsLoss cycles duration => rfl
    | offerStale source iOff vOff pOff => cases vOff <;> cases pOff <;> rfl
    | sensorFault sensor reason => rfl
    | linkError reason => rfl
    | sessionPhase st cause => cases cause <;> rfl
    | heatState st source level cause run =>
      have hcause : heatEndCode cause = causeHeat cause := by cases cause <;> rfl
      cases run with
      | none => simp only [EventData.bytes, hcause]; rfl
      | some q =>
        cases hended : q.ended with
        | none => simp only [EventData.bytes, hcause, putRun_active hended, hended]; rfl
        | some stop => simp only [EventData.bytes, hcause, putRun_ended hended, hended]; rfl
    | isoResult sec slot outcome => cases outcome <;> rfl
    | isoOverwrite sec => rfl
    | sessionEnd sequence cause => rfl
    | recordReady sequence closed => rfl
    | queueLow free => rfl

end Sys2Proof.Machine
end

section
/-! PROOFS. What a command does to the queue (log entry 4): each request's owner and each arrival's operation
leaves it, so every command does; the step; and what a request meets at the slot (R183 to R185). -/
namespace Sys2Proof.Machine
open Sys2Proof

/-! ## Requests as commands -/

/-- A request command is the arrival of its frame, whose owner is the request's (log entry 5). -/
theorem exec_commandOf (a : Arrival) (r : Request) (s : State) :
    exec (commandOf a r) s = .next (requestArrival a r.kind (requestOwner r) s) := by
  cases r <;> rfl

/-- Settles O46: the queue's front decides the step's branch. -/
theorem stepTakesTheFrontCommand : Obligations.StepTakesTheFrontCommand := by
  unfold Obligations.StepTakesTheFrontCommand
  intro c rest s hqueue
  simp only [step, hqueue]

/-- Settles O50: a request at a slot that is not ready, by whether a BUSY is owed already. -/
theorem requestsBeyondTheFirst : Obligations.RequestsBeyondTheFirst := by
  unfold Obligations.RequestsBeyondTheFirst
  refine ⟨fun a r s howed hheld => ?_, fun a r s howed => ?_⟩
  · rw [exec_commandOf, requestArrival_busy howed (Bool.or_eq_true_iff.2 hheld)]
    rfl
  · rw [exec_commandOf, requestArrival_overrun howed]
    rfl

/-! ## The queue and the owners of the requests -/

/-- The owner's changes leave the queue of commands as it is. -/
def KeepsQueue (owner : Owner) : Prop := ∀ s, (owner s).1.pending = s.pending

theorem profileSetOwner_keepsQueue (f : ProfileSetReq) : KeepsQueue (profileSetOwner f) := fun s => by
  unfold profileSetOwner
  repeat' split
  all_goals rfl

theorem seqConfigOwner_keepsQueue (f : SeqConfigReq) : KeepsQueue (seqConfigOwner f) := fun s => by
  unfold seqConfigOwner
  split <;> rfl

theorem placeStart_pending (p : PendingStart) (s : State) :
    (placeStart p s).pending = s.pending := by
  unfold placeStart
  split <;> simp

theorem acceptStart_pending (account : Nat) (p : Profile) (policy : Policy) (cap : Option Nat)
    (s : State) : (acceptStart account p policy cap s).pending = s.pending :=
  (placeStart_pending _ _).trans (supersede_pending s)

theorem sessionStartOwner_keepsQueue (f : SessionStartReq) : KeepsQueue (sessionStartOwner f) :=
  fun s => by
    unfold sessionStartOwner
    split
    · split
      · rfl
      · exact (arbiter_pending _ _).trans (acceptStart_pending _ _ _ _ s)
    · rfl

theorem sessionStop_pending (s : State) : (sessionStop s).1.pending = s.pending := by
  unfold sessionStop
  split <;> simp

theorem sessionStopOwner_keepsQueue : KeepsQueue sessionStopOwner := fun s =>
  (arbiter_pending _ s).trans (sessionStop_pending s)

theorem contactorClearOwner_keepsQueue : KeepsQueue contactorClearOwner := fun s => by
  unfold contactorClearOwner
  split <;> rfl

theorem offerOwner_keepsQueue (f : OfferReq) : KeepsQueue (offerOwner f) := fun s => by
  unfold offerOwner
  repeat' split
  all_goals simp

theorem derateSetOwner_keepsQueue (f : DerateSetReq) : KeepsQueue (derateSetOwner f) := fun s => by
  unfold derateSetOwner
  split <;> simp

theorem heaterConfigOwner_keepsQueue (f : HeaterConfigReq) : KeepsQueue (heaterConfigOwner f) :=
  fun s => by
    unfold heaterConfigOwner
    repeat' split
    all_goals simp

theorem heatRequestOwner_keepsQueue (f : HeatRequestReq) : KeepsQueue (heatRequestOwner f) :=
  fun s => by
    unfold heatRequestOwner
    repeat' split
    all_goals simp

theorem heatCancelOwner_keepsQueue : KeepsQueue heatCancelOwner := fun s => by
  unfold heatCancelOwner
  split <;> simp

theorem isoConfigOwner_keepsQueue (f : IsoConfigReq) : KeepsQueue (isoConfigOwner f) := fun s => by
  unfold isoConfigOwner
  repeat' split
  all_goals simp

theorem isoMeasure_pending (target : MeasureTarget) (s : State) :
    (isoMeasure target s).1.pending = s.pending := by
  unfold isoMeasure
  repeat' split
  all_goals rfl

theorem isoMeasureOwner_keepsQueue (f : IsoMeasureReq) : KeepsQueue (isoMeasureOwner f) :=
  fun s => by
    unfold isoMeasureOwner
    split
    · rfl
    · have hkept := isoMeasure_pending ‹_› s
      split <;> simp_all

theorem isoStop_pending (s : State) : (isoStop s).pending = s.pending := by
  unfold isoStop
  split <;> simp

theorem isoStopOwner_keepsQueue : KeepsQueue isoStopOwner := fun s =>
  (arbiter_pending _ s).trans (isoStop_pending s)

theorem isoResultsOwner_keepsQueue (f : IsoResultsReq) : KeepsQueue (isoResultsOwner f) :=
  fun s => by
    unfold isoResultsOwner
    repeat' split
    all_goals rfl

theorem isoThresholdsOwner_keepsQueue (f : IsoThresholdsReq) :
    KeepsQueue (isoThresholdsOwner f) := fun s => by
  unfold isoThresholdsOwner
  split <;> rfl

theorem isoClearOwner_keepsQueue (f : IsoClearReq) : KeepsQueue (isoClearOwner f) := fun s => by
  unfold isoClearOwner
  split
  · rfl
  · split
    · rfl
    · simp [apply_ite State.pending]

theorem timeSetOwner_keepsQueue (f : TimeSetReq) : KeepsQueue (timeSetOwner f) := fun s => by
  unfold timeSetOwner
  split <;> rfl

theorem accountSetOwner_keepsQueue (f : AccountSetReq) : KeepsQueue (accountSetOwner f) :=
  fun s => by
    unfold accountSetOwner
    repeat' split
    all_goals rfl

theorem accountClearOwner_keepsQueue (f : AccountClearReq) : KeepsQueue (accountClearOwner f) :=
  fun s => by
    simp only [accountClearOwner]
    repeat' split
    all_goals rfl

theorem tariffLoadOwner_keepsQueue (f : TariffLoadReq) : KeepsQueue (tariffLoadOwner f) :=
  fun s => by
    unfold tariffLoadOwner
    repeat' split
    all_goals rfl

theorem recordPeekOwner_keepsQueue : KeepsQueue recordPeekOwner := fun s => by
  unfold recordPeekOwner
  split <;> rfl

theorem recordDropOwner_keepsQueue (f : RecordDropReq) : KeepsQueue (recordDropOwner f) :=
  fun s => by
    unfold recordDropOwner
    repeat' split
    all_goals rfl

theorem seqBaseSetOwner_keepsQueue (f : SeqBaseSetReq) : KeepsQueue (seqBaseSetOwner f) :=
  fun s => by
    unfold seqBaseSetOwner
    split <;> rfl

theorem routeSetOwner_keepsQueue (f : RouteSetReq) : KeepsQueue (routeSetOwner f) := fun s => by
  unfold routeSetOwner
  repeat' split
  all_goals rfl

theorem eventsClearOwner_keepsQueue (f : EventsClearReq) : KeepsQueue (eventsClearOwner f) :=
  fun s => by
    unfold eventsClearOwner
    split <;> rfl

theorem restartOwner_keepsQueue : KeepsQueue restartOwner := fun s => by
  unfold restartOwner
  split <;> rfl

theorem requestOwner_keepsQueue (r : Request) : KeepsQueue (requestOwner r) := by
  cases r with
  | profileSet f => exact profileSetOwner_keepsQueue f
  | seqConfig f => exact seqConfigOwner_keepsQueue f
  | sessionStart f => exact sessionStartOwner_keepsQueue f
  | sessionStop => exact sessionStopOwner_keepsQueue
  | contactorClear => exact contactorClearOwner_keepsQueue
  | offer f => exact offerOwner_keepsQueue f
  | derateSet f => exact derateSetOwner_keepsQueue f
  | heaterConfig f => exact heaterConfigOwner_keepsQueue f
  | heatRequest f => exact heatRequestOwner_keepsQueue f
  | heatCancel => exact heatCancelOwner_keepsQueue
  | isoConfig f => exact isoConfigOwner_keepsQueue f
  | isoMeasure f => exact isoMeasureOwner_keepsQueue f
  | isoStop => exact isoStopOwner_keepsQueue
  | isoResults f => exact isoResultsOwner_keepsQueue f
  | isoThresholds f => exact isoThresholdsOwner_keepsQueue f
  | isoClear f => exact isoClearOwner_keepsQueue f
  | meterQuery => exact fun _ => rfl
  | timeSet f => exact timeSetOwner_keepsQueue f
  | accountSet f => exact accountSetOwner_keepsQueue f
  | accountClear f => exact accountClearOwner_keepsQueue f
  | tariffLoad f => exact tariffLoadOwner_keepsQueue f
  | recordPeek => exact recordPeekOwner_keepsQueue
  | recordDrop f => exact recordDropOwner_keepsQueue f
  | seqBaseSet f => exact seqBaseSetOwner_keepsQueue f
  | routeSet f => exact routeSetOwner_keepsQueue f
  | eventsClear f => exact eventsClearOwner_keepsQueue f
  | status => exact fun _ => rfl
  | restart => exact restartOwner_keepsQueue
  | linkCountsClear => exact fun _ => rfl

theorem frameOwner_keepsQueue (kind : Byte) (payload : List Byte) :
    KeepsQueue (frameOwner kind payload) := by
  unfold frameOwner
  split
  · exact fun _ => rfl
  · exact fun _ => rfl
  · exact requestOwner_keepsQueue _

theorem frameComplete_pending {owner : Owner} (h : KeepsQueue owner) (kind : Byte) (s : State) :
    (frameComplete kind owner s).pending = s.pending := by
  unfold frameComplete
  split
  · exact overrun_pending s
  · split
    · exact oweBusy_pending s kind
    · exact h _

theorem requestArrival_pending {owner : Owner} (h : KeepsQueue owner) (a : Arrival) (kind : Byte)
    (s : State) : (requestArrival a kind owner s).pending = s.pending :=
  (pump_pending _).trans (frameComplete_pending h kind (arrive a s))

theorem exec_commandOf_keepsQueue (a : Arrival) (r : Request) (s : State) :
    ∃ t, exec (commandOf a r) s = .next t ∧ t.pending = s.pending :=
  ⟨_, exec_commandOf a r s, requestArrival_pending (requestOwner_keepsQueue r) a r.kind s⟩

/-! ## The queue and the other arrivals -/

section
variable (s : State)

@[simp] theorem gapExpiry_pending : (gapExpiry s).pending = s.pending := by
  unfold gapExpiry
  split
  · exact linkError_pending s _ _
  · rfl

theorem takeByte_pending (b : Byte) : (takeByte b s).pending = s.pending := by
  unfold takeByte
  split
  · split <;> rfl
  · split <;> simp
  · rfl
  · rfl
  · rfl
  · unfold endFrame
    split
    · exact frameComplete_pending (frameOwner_keepsQueue _ _) _ _
    · exact linkError_pending s _ _

@[simp] theorem byteArrival_pending (b : Byte) : (byteArrival b s).pending = s.pending :=
  (takeByte_pending _ b).trans (gapExpiry_pending s)

@[simp] theorem discardStart_pending : (discardStart s).pending = s.pending := by
  unfold discardStart
  split <;> simp

@[simp] theorem resumeScan_pending (wasBusy : Bool) : (resumeScan wasBusy s).pending = s.pending := by
  unfold resumeScan
  repeat' split
  all_goals rfl

@[simp] theorem warmRestart_pending : (warmRestart s).pending = s.pending := by
  simp [warmRestart, restartMtr, restartAlc, restartIsm]

@[simp] theorem frameSent_pending : (frameSent s).pending = s.pending := by
  unfold frameSent
  repeat' split
  all_goals simp

@[simp] theorem coldStart_pending : (coldStart s).pending = s.pending := by
  unfold coldStart
  split <;> simp

@[simp] theorem unplug_pending : (unplug s).pending = s.pending := by
  unfold unplug
  split <;> simp

@[simp] theorem plugArrival_pending (present : Bool) :
    (plugArrival present s).pending = s.pending := by
  simp [plugArrival, apply_ite State.pending]

@[simp] theorem lockFbArrival_pending (engaged : Bool) :
    (lockFbArrival engaged s).pending = s.pending := by
  simp only [lockFbArrival]
  repeat' split
  all_goals simp

@[simp] theorem expireCheck_pending (late : Nat → Bool) :
    (expireCheck late s).pending = s.pending := by
  unfold expireCheck
  repeat' split
  all_goals simp

@[simp] theorem feedback_pending (closed : Bool) : (feedback closed s).pending = s.pending := by
  unfold feedback
  split <;> simp

@[simp] theorem dccFbArrival_pending (closed : Bool) :
    (dccFbArrival closed s).pending = s.pending := by
  unfold dccFbArrival
  split <;> simp

@[simp] theorem obcRdyArrival_pending (ready : Bool) :
    (obcRdyArrival ready s).pending = s.pending := by
  simp only [obcRdyArrival]
  repeat' split
  all_goals simp

@[simp] theorem seqPackLive_pending (live : Bool) : (seqPackLive live s).pending = s.pending := by
  unfold seqPackLive
  repeat' split
  all_goals simp

@[simp] theorem packLiveArrival_pending (live : Bool) :
    (packLiveArrival live s).pending = s.pending := by
  unfold packLiveArrival
  split <;> simp

@[simp] theorem packCurrentArrival_pending (i : Int) :
    (packCurrentArrival i s).pending = s.pending := by
  unfold packCurrentArrival
  split <;> simp

@[simp] theorem confirmExpiry_pending : (confirmExpiry s).pending = s.pending := by
  unfold confirmExpiry
  repeat' split
  all_goals simp

@[simp] theorem holdTimeout_pending : (holdTimeout s).pending = s.pending := by
  unfold holdTimeout
  repeat' split
  all_goals simp

@[simp] theorem isocheckTimeout_pending : (isocheckTimeout s).pending = s.pending := by
  unfold isocheckTimeout
  repeat' split
  all_goals simp

@[simp] theorem closingCheckExpiry_pending : (closingCheckExpiry s).pending = s.pending := by
  unfold closingCheckExpiry
  repeat' split
  all_goals simp

@[simp] theorem openingCheckExpiry_pending : (openingCheckExpiry s).pending = s.pending := by
  unfold openingCheckExpiry
  repeat' split
  all_goals simp

@[simp] theorem releaseMaxExpiry_pending : (releaseMaxExpiry s).pending = s.pending := by
  unfold releaseMaxExpiry
  repeat' split
  all_goals simp

@[simp] theorem restExpiryArrival_pending : (restExpiryArrival s).pending = s.pending := by
  unfold restExpiryArrival
  repeat' split
  all_goals simp

@[simp] theorem observeVoltage_pending : (observeVoltage s).pending = s.pending := by
  unfold observeVoltage
  split <;> simp

@[simp] theorem packVoltageArrival_pending (v : Nat) :
    (packVoltageArrival v s).pending = s.pending := by
  simp [packVoltageArrival]

@[simp] theorem inletVoltageLow_pending : (inletVoltageLow s).pending = s.pending := by
  simp only [inletVoltageLow, apply_ite State.pending]
  simp

@[simp] theorem dcInletArrival_pending (v : Nat) : (dcInletArrival v s).pending = s.pending := by
  simp only [dcInletArrival, observeVoltage_pending]
  split <;> simp

@[simp] theorem acLineArrival_pending (phase : Fin 3) (v : Nat) :
    (acLineArrival phase v s).pending = s.pending := by
  simp only [acLineArrival]
  split <;> simp

@[simp] theorem pilotArrival_pending (i : Nat) : (pilotArrival i s).pending = s.pending := by
  simp only [pilotArrival, lineWrite]
  split <;> simp

@[simp] theorem sensorFault_pending (sensor : SensorId) (before : Sensor) (valid : Bool)
    (r : Reading) : (sensorFault sensor before valid r s).pending = s.pending := by
  unfold sensorFault
  split <;> simp

@[simp] theorem packTemperatureArrival_pending (sensor : Fin 4) (r : Reading) :
    (packTemperatureArrival sensor r s).pending = s.pending := by
  simp [packTemperatureArrival, packSensorArrival, apply_ite State.pending]

@[simp] theorem inletPinArrival_pending (r : Reading) :
    (inletPinArrival r s).pending = s.pending := by
  simp only [inletPinArrival]
  split <;> simp

@[simp] theorem holdTimerArrival_pending : (holdTimerArrival s).pending = s.pending := by
  unfold holdTimerArrival goStale
  repeat' split
  all_goals simp

@[simp] theorem elementArrival_pending (r : Reading) : (elementArrival r s).pending = s.pending := by
  simp only [elementArrival]
  split <;> simp

@[simp] theorem requestExpiry_pending : (requestExpiry s).pending = s.pending := by
  unfold requestExpiry
  repeat' split
  all_goals simp

@[simp] theorem packHeatRestElapsed_pending : (packHeatRestElapsed s).pending = s.pending := by
  unfold packHeatRestElapsed
  split <;> simp

@[simp] theorem crossingArrival_pending : (crossingArrival s).pending = s.pending := by
  unfold crossingArrival mainsCrossing
  repeat' split
  all_goals simp

@[simp] theorem timedEnd_pending : (timedEnd s).pending = s.pending := by
  unfold timedEnd
  repeat' split
  all_goals simp

@[simp] theorem mainsLossArrival_pending : (mainsLossArrival s).pending = s.pending := by
  unfold mainsLossArrival loseMains
  repeat' split
  all_goals simp

end

/-- Settles O47: a request's owner leaves the queue, and so does the operation of every other arrival. -/
theorem everyCommandRunsAndKeepsTheQueue : Obligations.EveryCommandRunsAndKeepsTheQueue := by
  unfold Obligations.EveryCommandRunsAndKeepsTheQueue
  intro c s
  cases c with
  | profileSet a f => exact exec_commandOf_keepsQueue a (.profileSet f) s
  | seqConfig a f => exact exec_commandOf_keepsQueue a (.seqConfig f) s
  | sessionStart a f => exact exec_commandOf_keepsQueue a (.sessionStart f) s
  | sessionStop a => exact exec_commandOf_keepsQueue a .sessionStop s
  | contactorClear a => exact exec_commandOf_keepsQueue a .contactorClear s
  | offer a f => exact exec_commandOf_keepsQueue a (.offer f) s
  | derateSet a f => exact exec_commandOf_keepsQueue a (.derateSet f) s
  | heaterConfig a f => exact exec_commandOf_keepsQueue a (.heaterConfig f) s
  | heatRequest a f => exact exec_commandOf_keepsQueue a (.heatRequest f) s
  | heatCancel a => exact exec_commandOf_keepsQueue a .heatCancel s
  | isoConfig a f => exact exec_commandOf_keepsQueue a (.isoConfig f) s
  | isoMeasure a f => exact exec_commandOf_keepsQueue a (.isoMeasure f) s
  | isoStop a => exact exec_commandOf_keepsQueue a .isoStop s
  | isoResults a f => exact exec_commandOf_keepsQueue a (.isoResults f) s
  | isoThresholds a f => exact exec_commandOf_keepsQueue a (.isoThresholds f) s
  | isoClear a f => exact exec_commandOf_keepsQueue a (.isoClear f) s
  | meterQuery a => exact exec_commandOf_keepsQueue a .meterQuery s
  | timeSet a f => exact exec_commandOf_keepsQueue a (.timeSet f) s
  | accountSet a f => exact exec_commandOf_keepsQueue a (.accountSet f) s
  | accountClear a f => exact exec_commandOf_keepsQueue a (.accountClear f) s
  | tariffLoad a f => exact exec_commandOf_keepsQueue a (.tariffLoad f) s
  | recordPeek a => exact exec_commandOf_keepsQueue a .recordPeek s
  | recordDrop a f => exact exec_commandOf_keepsQueue a (.recordDrop f) s
  | seqBaseSet a f => exact exec_commandOf_keepsQueue a (.seqBaseSet f) s
  | routeSet a f => exact exec_commandOf_keepsQueue a (.routeSet f) s
  | eventsClear a f => exact exec_commandOf_keepsQueue a (.eventsClear f) s
  | status a => exact exec_commandOf_keepsQueue a .status s
  | restart a => exact exec_commandOf_keepsQueue a .restart s
  | linkCountsClear a => exact exec_commandOf_keepsQueue a .linkCountsClear s
  | _ => exact ⟨_, rfl, by simp⟩

end Sys2Proof.Machine
end

section
/-! PROOFS. The receive assembler (R179 to R181), one equation per state of it; what the completed frame is
(R183, R197), by the table of section 10.3; and the statement on them. -/
namespace Sys2Proof.Machine
open Sys2Proof

/-! ## The gap timer (R180) -/

/-- R180: at most 2,000 µs have passed by this instant since the last byte of the frame in assembly. -/
def InGap (now : Nat) (rx : Assembler) : Prop := ∀ last, rx.last? = some last → now ≤ last + 2000

theorem inGap_of_last {now last : Nat} {rx : Assembler} (hlast : rx.last? = some last)
    (h : now ≤ last + 2000) : InGap now rx := fun t ht => by
  rw [hlast, Option.some.injEq] at ht
  exact ht ▸ h

theorem inGap_hunt (now : Nat) : InGap now .hunt := fun _ h => nomatch h

theorem gapDue_eq_false {s : State} (h : InGap s.time s.lnk.rx) : gapDue s = false := by
  cases hlast : s.lnk.rx.last? with
  | none => simp only [gapDue, hlast]
  | some last =>
    simp only [gapDue, hlast]
    exact decide_eq_false (Nat.not_lt.2 (h last hlast))

theorem gapDue_eq_true {s : State} {last : Nat} (hlast : s.lnk.rx.last? = some last)
    (h : last + 2000 < s.time) : gapDue s = true := by
  simp only [gapDue, hlast]
  exact decide_eq_true h

section
variable {a : Arrival} {s : State}

theorem gapExpiry_inGap (h : InGap s.time s.lnk.rx) : gapExpiry s = s :=
  if_neg (by rw [gapDue_eq_false h]; decide)

theorem exec_linkRxByte_inGap (h : InGap (s.time + a.elapsed) s.lnk.rx) (b : Byte) :
    exec (.linkRxByte a b) s = .next (pump (takeByte b (arrive a s))) := by
  have hexpiry : gapExpiry (arrive a s) = arrive a s := gapExpiry_inGap h
  exact congrArg (fun t => Host.Outcome.next (pump (takeByte b t))) hexpiry

theorem exec_gapTimeout_inGap (h : InGap (s.time + a.elapsed) s.lnk.rx) :
    exec (.gapTimeout a) s = .next (pump (arrive a s)) := by
  have hexpiry : gapExpiry (arrive a s) = arrive a s := gapExpiry_inGap h
  exact congrArg (fun t => Host.Outcome.next (pump t)) hexpiry

theorem gapExpiry_due {last : Nat} (hlast : s.lnk.rx.last? = some last)
    (h : last + 2000 < s.time) : gapExpiry s = gapError s :=
  if_pos (gapDue_eq_true hlast h)

/-- R180: the gap timer's expiry discards the frame in assembly. -/
theorem exec_gapTimeout_due {last : Nat} (hlast : s.lnk.rx.last? = some last)
    (h : last + 2000 < s.time + a.elapsed) :
    exec (.gapTimeout a) s = .next (pump (gapError (arrive a s))) :=
  congrArg (fun t => Host.Outcome.next (pump t)) (gapExpiry_due (s := arrive a s) hlast h)

end

/-! ## One byte in each state (R179) -/

section
variable {s : State}

theorem takeByte_hunt (h : s.lnk.rx = .hunt) (b : Byte) :
    takeByte b s = setRx (if b = 0xC3 then .length s.time else .hunt) s := by
  have hself : setRx .hunt s = s := by rw [setRx, ← h]; rfl
  simp only [takeByte, h]
  split
  next hb => exact congrArg (setRx · s) (if_pos hb).symm
  next hb => exact hself.symm.trans (congrArg (setRx · s) (if_neg hb).symm)

theorem takeByte_length {last : Nat} {b : Byte} (h : s.lnk.rx = .length last) (hb : b.toNat ≤ 96) :
    takeByte b s = setRx (.kind s.time b.toNat) s := by
  simp only [takeByte, h]
  exact if_pos hb

theorem takeByte_length_error {last : Nat} {b : Byte} (h : s.lnk.rx = .length last)
    (hb : 96 < b.toNat) : takeByte b s
      = linkError .length (fun c => { c with lengthErrors := bump16 c.lengthErrors }) s := by
  simp only [takeByte, h]
  exact if_neg (Nat.not_le.2 hb)

theorem takeByte_kind {last len : Nat} (h : s.lnk.rx = .kind last len) (b : Byte) :
    takeByte b s = setRx (payloadOrCheck s.time len b []) s := by
  simp only [takeByte, h]

theorem takeByte_payload {last len : Nat} {k : Byte} {got : List Byte}
    (h : s.lnk.rx = .payload last len k got) (b : Byte) :
    takeByte b s = setRx (payloadOrCheck s.time len k (got ++ [b])) s := by
  simp only [takeByte, h]

theorem takeByte_checkLow {last : Nat} {k : Byte} {got : List Byte}
    (h : s.lnk.rx = .checkLow last k got) (b : Byte) :
    takeByte b s = setRx (.checkHigh s.time k got b) s := by
  simp only [takeByte, h]

theorem takeByte_checkHigh {last : Nat} {k low b : Byte} {got : List Byte}
    (h : s.lnk.rx = .checkHigh last k got low) (hcheck : b ++ low = frameCheck k got) :
    takeByte b s = frameComplete k (frameOwner k got) (setRx .hunt s) := by
  simp only [takeByte, h]
  exact if_pos hcheck

theorem takeByte_check_error {last : Nat} {k low b : Byte} {got : List Byte}
    (h : s.lnk.rx = .checkHigh last k got low) (hcheck : b ++ low ≠ frameCheck k got) :
    takeByte b s = linkError .check (fun c => { c with checkErrors := bump16 c.checkErrors }) s := by
  simp only [takeByte, h]
  exact if_neg hcheck

end

theorem payloadOrCheck_payload {len : Nat} {got : List Byte} (h : got.length < len) (now : Nat)
    (k : Byte) : payloadOrCheck now len k got = .payload now len k got :=
  if_neg (Nat.not_le.2 h)

theorem payloadOrCheck_check {len : Nat} {got : List Byte} (h : len ≤ got.length) (now : Nat)
    (k : Byte) : payloadOrCheck now len k got = .checkLow now k got :=
  if_pos h

/-! ## A completed frame -/

section
variable {a : Arrival} {s : State} {last : Nat} {k low b : Byte} {p : List Byte}

/-- R181, R183: the last byte of a frame whose check matches completes it at the request slot; the
assembler hunts from then on. -/
theorem exec_lastByte (hrx : s.lnk.rx = .checkHigh last k p low)
    (hgap : s.time + a.elapsed ≤ last + 2000) (hcheck : b ++ low = frameCheck k p) :
    exec (.linkRxByte a b) s = .next (requestArrival a k (frameOwner k p) (setRx .hunt s)) := by
  rw [exec_linkRxByte_inGap (inGap_of_last (by rw [hrx]; rfl) hgap),
    takeByte_checkHigh (s := arrive a s) hrx hcheck]
  rfl

theorem frameOwner_request {r : Request} (hparse : parseRequest k p = .request r) :
    frameOwner k p = requestOwner r := by
  simp only [frameOwner, hparse]

/-- R183: a frame that is a request does what the request does as one command. -/
theorem exec_lastByte_request {r : Request} (hrx : s.lnk.rx = .checkHigh last k p low)
    (hgap : s.time + a.elapsed ≤ last + 2000) (hcheck : b ++ low = frameCheck k p)
    (hparse : parseRequest k p = .request r) (hkind : r.kind = k) :
    exec (.linkRxByte a b) s = exec (commandOf a r) (setRx .hunt s) := by
  rw [exec_lastByte hrx hgap hcheck, exec_commandOf, frameOwner_request hparse, hkind]

/-- R183: LNK's own answer to a frame that is no request. -/
theorem exec_lastByte_answered {st : Status} (hrx : s.lnk.rx = .checkHigh last k p low)
    (hgap : s.time + a.elapsed ≤ last + 2000) (hcheck : b ++ low = frameCheck k p)
    (hready : slotReady s = true) (howner : frameOwner k p = fun s => (s, bare st)) :
    exec (.linkRxByte a b) s = .next (answered k (bare st) (setRx .hunt (taken a s))) := by
  have hready' : slotReady (setRx .hunt s) = true := hready
  rw [exec_lastByte hrx hgap hcheck, requestArrival_ready hready', howner]
  rfl

end

/-! ## The table of the requests (section 10.3, R197) -/

/-- The request kinds of a fixed payload length, with each length. -/
def fixedKinds : List (Nat × Nat) :=
  [(0x10, 39), (0x11, 6), (0x12, 6), (0x12, 10), (0x13, 0), (0x14, 0), (0x20, 10), (0x28, 13),
    (0x29, 6), (0x2A, 0), (0x30, 19), (0x31, 1), (0x32, 0), (0x33, 3), (0x34, 4), (0x35, 1),
    (0x40, 0), (0x48, 6), (0x49, 9), (0x4A, 4), (0x4C, 0), (0x4D, 4), (0x4E, 4), (0x58, 3),
    (0x59, 2), (0x60, 0), (0x61, 0), (0x62, 0)]

/-- The request kinds that carry a counted list, with the length of their other fields. -/
def countedKinds : List (Nat × Nat) := [(0x21, 1), (0x4B, 17)]

def KnownKind (k : Byte) : Prop :=
  k.toNat ∈ fixedKinds.map (·.1) ∨ k.toNat ∈ countedKinds.map (·.1)

def AllowedLength (k : Byte) (p : List Byte) : Prop :=
  (k.toNat, p.length) ∈ fixedKinds
    ∨ ∃ n rest fixed, p = n :: rest ∧ (k.toNat, fixed) ∈ countedKinds
      ∧ p.length = fixed + 3 * n.toNat

/-- What a frame of this kind and payload is, by the table. -/
inductive FollowsTable (k : Byte) (p : List Byte) : Parsed → Prop
  | unknown : ¬ KnownKind k → FollowsTable k p .unknown
  | badLength : KnownKind k → ¬ AllowedLength k p → FollowsTable k p .badLength
  | request {r : Request} : AllowedLength k p → r.kind = k → FollowsTable k p (.request r)

/-- The lengths a table gives for a kind. -/
def lengthsIn (table : List (Nat × Nat)) (kind : Nat) : List Nat :=
  (table.filter fun e => e.1 == kind).map (·.2)

theorem mem_lengthsIn {table : List (Nat × Nat)} {kind n : Nat} :
    n ∈ lengthsIn table kind ↔ (kind, n) ∈ table := by
  simp [lengthsIn]

theorem lengthsIn_ne_nil {table : List (Nat × Nat)} {kind : Nat} :
    lengthsIn table kind ≠ [] ↔ kind ∈ table.map (·.1) := by
  simp [lengthsIn]

theorem knownKind_iff {k : Byte} : KnownKind k
    ↔ lengthsIn fixedKinds k.toNat ≠ [] ∨ lengthsIn countedKinds k.toNat ≠ [] :=
  or_congr lengthsIn_ne_nil.symm lengthsIn_ne_nil.symm

section
variable {k : Byte} {kind : Nat} {r : Request}

/-- The lengths of a kind that carries no list. -/
theorem allowedLength_fixed {ns : List Nat} (hk : k.toNat = kind)
    (hfixed : lengthsIn fixedKinds kind = ns) (hcounted : lengthsIn countedKinds kind = [])
    (p : List Byte) : AllowedLength k p ↔ p.length ∈ ns := by
  simp [AllowedLength, ← mem_lengthsIn, hk, hfixed, hcounted]

/-- The lengths of a kind that carries a list: its count is the first byte (R197). -/
theorem allowedLength_counted {fixed : Nat} (hk : k.toNat = kind)
    (hfixed : lengthsIn fixedKinds kind = []) (hcounted : lengthsIn countedKinds kind = [fixed])
    (p : List Byte) : AllowedLength k p
      ↔ p.length ≠ 0 ∧ p.length = fixed + 3 * (getU8 p 0).toNat := by
  cases p <;> simp [AllowedLength, ← mem_lengthsIn, hk, hfixed, hcounted, getU8]

theorem fixedLength_followsTable {n : Nat} (p : List Byte) (hk : k.toNat = kind)
    (hr : r.kind.toNat = kind) (hfixed : lengthsIn fixedKinds kind = [n])
    (hcounted : lengthsIn countedKinds kind = []) : FollowsTable k p (fixedLength n p r) := by
  have hknown : KnownKind k := knownKind_iff.2 (.inl (by simp [hk, hfixed]))
  have hallowed := allowedLength_fixed hk hfixed hcounted p
  unfold fixedLength
  split
  next h => exact .request (hallowed.2 (by simpa using h)) (BitVec.eq_of_toNat_eq (hr.trans hk.symm))
  next h => exact .badLength hknown (mt hallowed.1 (by simpa using h))

theorem countedLength_followsTable {fixed : Nat} {f : Nat → Request} (p : List Byte)
    (hk : k.toNat = kind) (hr : ∀ n, (f n).kind.toNat = kind)
    (hfixed : lengthsIn fixedKinds kind = []) (hcounted : lengthsIn countedKinds kind = [fixed]) :
    FollowsTable k p (countedLength fixed p f) := by
  have hknown : KnownKind k := knownKind_iff.2 (.inr (by simp [hk, hcounted]))
  have hallowed := allowedLength_counted hk hfixed hcounted p
  simp only [countedLength]
  split
  next h => exact .request (hallowed.2 h) (BitVec.eq_of_toNat_eq ((hr _).trans hk.symm))
  next h => exact .badLength hknown (mt hallowed.1 h)

end

/-- R183, R197: the part reads a frame as the table has it. SESSION_START has two lengths. -/
theorem parseRequest_followsTable (k : Byte) (p : List Byte) :
    FollowsTable k p (parseRequest k p) := by
  unfold parseRequest
  split
  case h_3 hk =>
    have hknown : KnownKind k := knownKind_iff.2 (.inl (by rw [hk]; decide))
    have hallowed : AllowedLength k p ↔ p.length ∈ [6, 10] := allowedLength_fixed hk rfl rfl p
    have hkind : (0x12 : Byte) = k := BitVec.eq_of_toNat_eq hk.symm
    unfold fixedLength
    split
    next h => exact .request (hallowed.2 (by simp [h])) hkind
    next h6 =>
      split
      next h => exact .request (hallowed.2 (by simp [h])) hkind
      next h10 => exact .badLength hknown (mt hallowed.1 (by simp [h6, h10]))
  case h_7 hk => exact countedLength_followsTable p hk (fun _ => rfl) rfl rfl
  case h_21 hk => exact countedLength_followsTable p hk (fun _ => rfl) rfl rfl
  case h_30 =>
    refine .unknown fun hknown => ?_
    simp_all [KnownKind, fixedKinds, countedKinds]
  all_goals
    rename_i hk
    exact fixedLength_followsTable p hk rfl rfl rfl

theorem AllowedLength.knownKind {k : Byte} {p : List Byte} (h : AllowedLength k p) :
    KnownKind k := by
  rcases h with hfixed | ⟨n, rest, fixed, -, hcounted, -⟩
  · exact .inl (List.mem_map_of_mem hfixed)
  · exact .inr (List.mem_map_of_mem hcounted)

theorem parseRequest_unknown {k : Byte} {p : List Byte} (h : ¬ KnownKind k) :
    parseRequest k p = .unknown := by
  have hfollows := parseRequest_followsTable k p
  generalize parseRequest k p = x at hfollows ⊢
  cases hfollows with
  | unknown => rfl
  | badLength hknown => exact absurd hknown h
  | request hallowed => exact absurd hallowed.knownKind h

theorem parseRequest_badLength {k : Byte} {p : List Byte} (hknown : KnownKind k)
    (h : ¬ AllowedLength k p) : parseRequest k p = .badLength := by
  have hfollows := parseRequest_followsTable k p
  generalize parseRequest k p = x at hfollows ⊢
  cases hfollows with
  | unknown hunknown => exact absurd hknown hunknown
  | badLength => rfl
  | request hallowed => exact absurd hallowed h

theorem parseRequest_request {k : Byte} {p : List Byte} (h : AllowedLength k p) :
    ∃ r, parseRequest k p = .request r ∧ r.kind = k := by
  have hfollows := parseRequest_followsTable k p
  generalize parseRequest k p = x at hfollows ⊢
  cases hfollows with
  | unknown hunknown => exact absurd h.knownKind hunknown
  | badLength _ hnot => exact absurd h hnot
  | request _ hkind => exact ⟨_, rfl, hkind⟩

/-! ## The two lengths of SESSION_START (R197) -/

theorem parseRequest_sessionStart_short {p : List Byte} (h : p.length = 6) :
    ∃ f, parseRequest 0x12 p = .request (.sessionStart f) ∧ f.energyCap = 0
      ∧ parseRequest 0x12 (p ++ [0, 0, 0, 0]) = .request (.sessionStart f) := by
  match p, h with
  | [_, _, _, _, _, _], _ =>
    refine ⟨_, rfl, rfl, ?_⟩
    simp [parseRequest, fixedLength, getU32, getU16, getU8]

/-! ## The assembler's statement -/

section
variable {a : Arrival} {s : State}

/-- A byte within the gap that the assembler takes changes LNK's assembler alone. -/
theorem exec_linkRxByte_assembles {b : Byte} (rx : Nat → Assembler)
    (hgap : InGap (s.time + a.elapsed) s.lnk.rx)
    (htake : takeByte b (arrive a s) = setRx (rx (arrive a s).time) (arrive a s)) :
    exec (.linkRxByte a b) s
      = .next (pump ((arrive a s).withLnk { s.lnk with rx := rx (s.time + a.elapsed) })) := by
  rw [exec_linkRxByte_inGap hgap, htake]
  rfl

/-- R180: a byte after the gap finds the expiry taken and the assembler in HUNT (log entry 13). -/
theorem exec_linkRxByte_due {last : Nat} (hlast : s.lnk.rx.last? = some last)
    (h : last + 2000 < s.time + a.elapsed) (b : Byte) :
    exec (.linkRxByte a b) s = .next (pump
      (setRx (if b = 0xC3 then .length (s.time + a.elapsed) else .hunt) (gapError (arrive a s)))) := by
  have hexpiry := gapExpiry_due (s := arrive a s) hlast h
  have htake : takeByte b (gapError (arrive a s)) = _ := takeByte_hunt rfl b
  exact congrArg (fun t => Host.Outcome.next (pump t)) ((congrArg (takeByte b) hexpiry).trans htake)

end

/-- Settles O51: each state of the assembler by its equation, the gap by the timer's, and the completed
frame by the table of the requests. -/
theorem theReceiveAssemblerFollowsItsTable : Obligations.TheReceiveAssemblerFollowsItsTable := by
  unfold Obligations.TheReceiveAssemblerFollowsItsTable
  refine ⟨fun a b s hgap => ?_, fun a b s => ?_, fun a b s last k p low hrx hgap hcheck hready => ?_,
    fun p => parseRequest_sessionStart_short⟩
  · intro now into
    refine ⟨fun hrx => ?_, fun last hrx hb => ?_, fun last hrx => ?_, fun last n hrx => ?_,
      fun last len k got hrx hlen => ?_, fun last len k got hrx hlen => ?_, fun last k got hrx => ?_,
      fun last k got low hrx hcheck => ?_⟩
    · exact exec_linkRxByte_assembles (fun t => if b = 0xC3 then .length t else .hunt) hgap
        (takeByte_hunt (s := arrive a s) hrx b)
    · exact exec_linkRxByte_assembles (.kind · b.toNat) hgap
        (takeByte_length (s := arrive a s) hrx hb)
    · exact exec_linkRxByte_assembles (.checkLow · b []) hgap
        (takeByte_kind (s := arrive a s) hrx b)
    · exact exec_linkRxByte_assembles (.payload · (n + 1) b []) hgap
        (takeByte_kind (s := arrive a s) hrx b)
    · refine exec_linkRxByte_assembles (.payload · len k (got ++ [b])) hgap ?_
      rw [takeByte_payload (s := arrive a s) hrx, payloadOrCheck_payload (by simpa using hlen)]
    · refine exec_linkRxByte_assembles (.checkLow · k (got ++ [b])) hgap ?_
      rw [takeByte_payload (s := arrive a s) hrx, payloadOrCheck_check (by simpa using hlen)]
    · exact exec_linkRxByte_assembles (.checkHigh · k got b) hgap
        (takeByte_checkLow (s := arrive a s) hrx b)
    · rw [exec_linkRxByte_inGap hgap, takeByte_checkHigh (s := arrive a s) hrx hcheck]
      rfl
  · intro now ended
    refine ⟨fun last hrx hgap hb => ?_, fun last k got low hrx hgap hcheck => ?_,
      fun last hlast hdue => ?_, fun hstands => ?_⟩
    · rw [exec_linkRxByte_inGap (inGap_of_last (by rw [hrx]; rfl) hgap),
        takeByte_length_error (s := arrive a s) hrx hb]
      rfl
    · rw [exec_linkRxByte_inGap (inGap_of_last (by rw [hrx]; rfl) hgap),
        takeByte_check_error (s := arrive a s) hrx hcheck]
      rfl
    · exact ⟨exec_gapTimeout_due hlast hdue, exec_linkRxByte_due hlast hdue b⟩
    · rcases hstands with hhunt | ⟨last, hlast, hgap⟩
      · exact exec_gapTimeout_inGap (hhunt ▸ inGap_hunt _)
      · exact exec_gapTimeout_inGap (inGap_of_last hlast hgap)
  · intro u
    refine ⟨fun hunknown => ?_, fun hknown hlength => ?_, fun hallowed => ?_⟩
    · exact exec_lastByte_answered (st := .unknown) hrx hgap hcheck hready
        (by simp only [frameOwner, parseRequest_unknown hunknown])
    · exact exec_lastByte_answered (st := .length) hrx hgap hcheck hready
        (by simp only [frameOwner, parseRequest_badLength hknown hlength])
    · obtain ⟨r, hparse, hkind⟩ := parseRequest_request hallowed
      exact ⟨r, hparse, hkind, exec_lastByte_request hrx hgap hcheck hparse hkind⟩

end Sys2Proof.Machine
end

section
/-! PROOFS. A request's payload reads back as the request (section 10.5, R196, R197); a frame's bytes, fed
one by one, walk the assembler to the request slot; and the statement on them. -/
namespace Sys2Proof.Machine
open Sys2Proof

/-! ## Fields, least significant byte first (R196) -/

theorem byteOf_toNat_of_lt {n : Nat} (h : n < 256) : (byteOf n).toNat = n :=
  Nat.mod_eq_of_lt h

theorem bytes_append (n : Nat) :
    (byteOf (n / 256) ++ byteOf n : Half) = BitVec.ofNat 16 n := by
  refine BitVec.eq_of_toNat_eq ?_
  rw [BitVec.toNat_append, ← Nat.shiftLeft_add_eq_or_of_lt (byteOf n).isLt]
  simp only [byteOf, BitVec.toNat_ofNat, Nat.shiftLeft_eq]
  omega

theorem half_of_bytes (h : Half) : (byteOf (h.toNat / 256) ++ byteOf h.toNat : Half) = h := by
  rw [bytes_append, BitVec.ofNat_toNat, BitVec.setWidth_eq]

theorem word_low_bytes (w : Word) :
    (byteOf (w.toNat / 256) ++ byteOf w.toNat : Half) = w.setWidth 16 := by
  rw [bytes_append, BitVec.ofNat_toNat]

theorem word_high_bytes (w : Word) :
    (byteOf (w.toNat / 16777216) ++ byteOf (w.toNat / 65536) : Half)
      = BitVec.ofNat 16 (w.toNat / 65536) := by
  rw [← bytes_append, Nat.div_div_eq_div_mul]

theorem word_of_halves (w : Word) :
    (BitVec.ofNat 16 (w.toNat / 65536) ++ w.setWidth 16 : Word) = w := by
  have hlt := w.isLt
  refine BitVec.eq_of_toNat_eq ?_
  rw [BitVec.toNat_append, ← Nat.shiftLeft_add_eq_or_of_lt (BitVec.isLt _)]
  simp only [BitVec.toNat_ofNat, BitVec.toNat_setWidth, Nat.shiftLeft_eq]
  omega

theorem getU8_append_right (xs ys : List Byte) (i : Nat) :
    getU8 (xs ++ ys) (xs.length + i) = getU8 ys i := by
  simp [getU8, List.getElem?_append_right]

theorem getU32_append_right (xs ys : List Byte) (i : Nat) :
    getU32 (xs ++ ys) (xs.length + i) = getU32 ys i := by
  simp only [getU32, getU16, Nat.add_assoc, getU8_append_right]

/-! ## The lists of DERATE_SET and TARIFF_LOAD -/

theorem length_putPoints (points : List (Byte × Half)) :
    (putPoints points).length = 3 * points.length := by
  induction points with
  | nil => rfl
  | cons q points ih => simp [putPoints, putHalf, putU16, ih]; omega

theorem getPoints_putPoints (points : List (Byte × Half)) :
    getPoints points.length (putPoints points) = points := by
  induction points with
  | nil => rfl
  | cons q points ih =>
    simp [putPoints, getPoints, putHalf, putU16, getU16, getU8, half_of_bytes, ih]

theorem length_putWindows (windows : List (Half × Byte)) :
    (putWindows windows).length = 3 * windows.length := by
  induction windows with
  | nil => rfl
  | cons w windows ih => simp [putWindows, putHalf, putU16, ih]; omega

theorem getWindows_putWindows (windows : List (Half × Byte)) (rest : List Byte) :
    getWindows windows.length (putWindows windows ++ rest) = windows := by
  induction windows with
  | nil => rfl
  | cons w windows ih =>
    simp [putWindows, getWindows, putHalf, putU16, getU16, getU8, half_of_bytes, ih]

/-! ## Payloads -/

theorem length_payload_le {r : Request} (h : r.wellFormed = true) : r.payload.length ≤ 96 := by
  cases r with
  | derateSet f =>
    have hfits : 1 + 3 * f.points.length ≤ 96 := of_decide_eq_true h
    simp [Request.payload, length_putPoints]; omega
  | tariffLoad f =>
    have hfits : 17 + 3 * f.windows.length ≤ 96 := of_decide_eq_true h
    simp [Request.payload, length_putWindows, putWord, putU32]; omega
  | _ => simp [Request.payload, putHalf, putU16, putWord, putU32]

/-- The four prices of a TARIFF_LOAD. -/
def pricesPayload (f : TariffLoadReq) : List Byte :=
  putWord f.price0 ++ putWord f.price1 ++ putWord f.price2 ++ putWord f.price3

theorem tariffLoad_payload (f : TariffLoadReq) : (Request.tariffLoad f).payload
    = (byteOf f.windows.length :: putWindows f.windows) ++ pricesPayload f := by
  simp only [Request.payload, pricesPayload, List.cons_append, List.append_assoc]

theorem getU32_pricesPayload (f : TariffLoadReq) :
    getU32 (pricesPayload f) 0 = f.price0 ∧ getU32 (pricesPayload f) 4 = f.price1
      ∧ getU32 (pricesPayload f) 8 = f.price2 ∧ getU32 (pricesPayload f) 12 = f.price3 := by
  simp [pricesPayload, putWord, putU32, getU32, getU16, getU8, word_low_bytes, word_high_bytes,
    word_of_halves]

/-- R197: a payload whose length is that of its count is the request of that count. -/
theorem countedLength_of_length {fixed n : Nat} {p : List Byte} {f : Nat → Request}
    (hfixed : 0 < fixed) (hcount : (getU8 p 0).toNat = n) (hlen : p.length = fixed + 3 * n) :
    countedLength fixed p f = .request (f n) := by
  subst hcount
  exact if_pos ⟨by omega, hlen⟩

theorem parseRequest_derateSet_kind (p : List Byte) : parseRequest 0x21 p
    = countedLength 1 p fun n => .derateSet { points := getPoints n (p.drop 1) } := rfl

theorem parseRequest_derateSet {f : DerateSetReq} (h : f.wellFormed = true) :
    parseRequest 0x21 (Request.derateSet f).payload = .request (.derateSet f) := by
  have hfits : 1 + 3 * f.points.length ≤ 96 := of_decide_eq_true h
  have hcount : (getU8 (Request.derateSet f).payload 0).toNat = f.points.length :=
    byteOf_toNat_of_lt (by omega)
  have hlen : (Request.derateSet f).payload.length = 1 + 3 * f.points.length := by
    rw [Request.payload, List.length_cons, length_putPoints, Nat.add_comm]
  have hpoints : getPoints f.points.length ((Request.derateSet f).payload.drop 1) = f.points :=
    getPoints_putPoints f.points
  rw [parseRequest_derateSet_kind, countedLength_of_length Nat.one_pos hcount hlen, hpoints]

theorem parseRequest_tariffLoad_kind (p : List Byte) : parseRequest 0x4B p
    = countedLength 17 p fun n => .tariffLoad
      { windows := getWindows n (p.drop 1), price0 := getU32 p (1 + 3 * n)
        price1 := getU32 p (5 + 3 * n), price2 := getU32 p (9 + 3 * n)
        price3 := getU32 p (13 + 3 * n) } := rfl

theorem parseRequest_tariffLoad {f : TariffLoadReq} (h : f.wellFormed = true) :
    parseRequest 0x4B (Request.tariffLoad f).payload = .request (.tariffLoad f) := by
  have hfits : 17 + 3 * f.windows.length ≤ 96 := of_decide_eq_true h
  have hcount : (getU8 (Request.tariffLoad f).payload 0).toNat = f.windows.length :=
    byteOf_toNat_of_lt (by omega)
  have hlist : (byteOf f.windows.length :: putWindows f.windows).length
      = 1 + 3 * f.windows.length := by
    rw [List.length_cons, length_putWindows, Nat.add_comm]
  have hlen : (Request.tariffLoad f).payload.length = 17 + 3 * f.windows.length := by
    rw [tariffLoad_payload, List.length_append, hlist]
    simp [pricesPayload, putWord, putU32]; omega
  have hwindows : getWindows f.windows.length ((Request.tariffLoad f).payload.drop 1) = f.windows := by
    rw [tariffLoad_payload]
    exact getWindows_putWindows f.windows (pricesPayload f)
  have hprice (m i : Nat) (hm : m = 1 + i) :
      getU32 (Request.tariffLoad f).payload (m + 3 * f.windows.length)
        = getU32 (pricesPayload f) i := by
    rw [tariffLoad_payload, hm, Nat.add_right_comm, ← hlist, getU32_append_right]
  obtain ⟨h0, h1, h2, h3⟩ := getU32_pricesPayload f
  rw [parseRequest_tariffLoad_kind, countedLength_of_length (by decide) hcount hlen, hwindows,
    hprice 1 0 rfl, hprice 5 4 rfl, hprice 9 8 rfl, hprice 13 12 rfl, h0, h1, h2, h3]

theorem parseRequest_payload {r : Request} (h : r.wellFormed = true) :
    parseRequest r.kind r.payload = .request r := by
  cases r with
  | derateSet f => exact parseRequest_derateSet h
  | tariffLoad f => exact parseRequest_tariffLoad h
  | _ =>
    simp [parseRequest, Request.kind, Request.payload, fixedLength, putHalf, putU16, putWord, putU32,
      getU32, getU16, getU8, half_of_bytes, word_low_bytes, word_high_bytes, word_of_halves]

/-! ## A quiet line -/

/-- A side that takes nothing is SENDING, or nothing waits. -/
theorem pump_eq_self_iff (s : State) : pump s = s ↔ s.lnk.out ≠ .free
    ∨ (s.lnk.slot = none ∧ s.lnk.owedBusy = none ∧ s.evt.lowestOwed = none) := by
  refine ⟨fun h => ?_, fun h => h.elim pump_not_free fun ⟨hslot, hbusy, howed⟩ =>
    pump_nothing hslot hbusy howed⟩
  by_cases hfree : s.lnk.out = .free
  · refine .inr ?_
    have hout : (pump s).lnk.out = .free := by rw [h, hfree]
    cases hslot : s.lnk.slot with
    | some q => rw [pump_reply hfree hslot, takeReply_eq] at hout; cases hout
    | none =>
      cases hbusy : s.lnk.owedBusy with
      | some k => rw [pump_busy hfree hslot hbusy, takeBusy_eq] at hout; cases hout
      | none =>
        cases howed : s.evt.lowestOwed with
        | some k => rw [pump_notice hfree hslot hbusy howed, takeNotice_eq] at hout; cases hout
        | none => exact ⟨rfl, rfl, rfl⟩
  · exact .inl hfree

/-! ## A frame arrives byte by byte -/

/-- Section 10.2: start, length, kind and check are five bytes. -/
theorem frameBytes_length (k : Byte) (p : List Byte) :
    (frameBytes k p).length = 3 + p.length + 1 + 1 := by
  simp [frameBytes, putHalf, putU16]; omega

/-- The part when `n` bytes have arrived since `s`, each with the same arrival, and the assembler alone
has taken them. -/
def heard (a : Arrival) (n : Nat) (rx : Assembler) (s : State) : State :=
  setRx rx (arrive { a with elapsed := a.elapsed * n } s)

section
variable {a : Arrival} {s : State} {n : Nat} {rx : Assembler}

theorem heard_time : (heard a n rx s).time = s.time + a.elapsed * n := rfl

theorem heard_rx : (heard a n rx s).lnk.rx = rx := rfl

theorem arrive_heard : arrive a (heard a n rx s) = heard a (n + 1) rx s := by
  simp only [heard, setRx, arrive, Nat.mul_succ, ← Nat.add_assoc]
  rfl

/-- An assembler that hunts again shows the passage of time alone. -/
theorem heard_hunt (hrx : s.lnk.rx = .hunt) :
    heard a n .hunt s = arrive { a with elapsed := a.elapsed * n } s := by
  rw [heard, setRx, ← hrx]
  rfl

/-- A line that is quiet stays so while the assembler takes bytes. -/
theorem pump_heard (hquiet : pump s = s) : pump (heard a n rx s) = heard a n rx s :=
  (pump_eq_self_iff _).2 ((pump_eq_self_iff s).1 hquiet)

/-- R183: the frame's last byte completes it at the instant of `n + 1` bytes. -/
theorem requestArrival_heard (hrx : s.lnk.rx = .hunt) (k : Byte) (owner : Owner) :
    requestArrival a k owner (heard a n .hunt s)
      = requestArrival { a with elapsed := a.elapsed * (n + 1) } k owner s := by
  rw [requestArrival, arrive_heard, heard_hunt hrx, requestArrival]

theorem feedBytes_cons {b : Byte} {rest : List Byte} {t : State}
    (h : exec (.linkRxByte a b) s = .next t) : feedBytes a (b :: rest) s = feedBytes a rest t := by
  rw [feedBytes, h]

variable (hquiet : pump s = s) (hspace : a.elapsed ≤ 2000)
include hquiet

theorem feedBytes_first (hrx : s.lnk.rx = .hunt) (rest : List Byte) :
    feedBytes a (0xC3 :: rest) s
      = feedBytes a rest (heard a 1 (.length (s.time + a.elapsed * 1)) s) := by
  have hgap : InGap (s.time + a.elapsed) s.lnk.rx := hrx ▸ inGap_hunt _
  have htake := takeByte_hunt (s := arrive a s) hrx 0xC3
  have hheard : setRx (.length (arrive a s).time) (arrive a s)
      = heard a 1 (.length (s.time + a.elapsed * 1)) s := by
    simp only [heard, Nat.mul_one, arrive_time]
  refine feedBytes_cons ?_
  rw [exec_linkRxByte_inGap hgap, htake, if_pos rfl, hheard, pump_heard hquiet]

include hspace

/-- One byte after the first, where the assembler takes it and the frame goes on. -/
theorem feedBytes_next {rx' : Assembler} {b : Byte}
    (hlast : rx.last? = some (s.time + a.elapsed * n))
    (htake : takeByte b (heard a (n + 1) rx s) = heard a (n + 1) rx' s) (rest : List Byte) :
    feedBytes a (b :: rest) (heard a n rx s) = feedBytes a rest (heard a (n + 1) rx' s) := by
  have hgap : InGap ((heard a n rx s).time + a.elapsed) (heard a n rx s).lnk.rx :=
    inGap_of_last hlast (by rw [heard_time]; omega)
  refine feedBytes_cons ?_
  rw [exec_linkRxByte_inGap hgap, arrive_heard, htake, pump_heard hquiet]

/-- R179: the payload's remaining bytes lead to the check. -/
theorem feedBytes_payload (k : Byte) (rest tail : List Byte) (n : Nat) (got : List Byte) :
    feedBytes a (rest ++ tail) (heard a n
        (payloadOrCheck (s.time + a.elapsed * n) (got.length + rest.length) k got) s)
      = feedBytes a tail (heard a (n + rest.length)
        (.checkLow (s.time + a.elapsed * (n + rest.length)) k (got ++ rest)) s) := by
  induction rest generalizing n got with
  | nil =>
    rw [payloadOrCheck_check (by simp), List.append_nil]
    rfl
  | cons b rest ih =>
    have hlen : (got ++ [b]).length + rest.length = got.length + (b :: rest).length := by
      simp only [List.length_append, List.length_cons, List.length_nil]; omega
    have hcount : n + 1 + rest.length = n + (b :: rest).length := by
      simp only [List.length_cons]; omega
    have hrest := ih (n + 1) (got ++ [b])
    rw [hlen, hcount, List.append_assoc] at hrest
    rw [payloadOrCheck_payload (by simp only [List.length_cons]; omega)]
    exact (feedBytes_next hquiet hspace rfl (takeByte_payload heard_rx b) _).trans hrest

/-- R179 to R183: the bytes of a frame, from HUNT on, complete the frame at the request slot. -/
theorem feedBytes_frame (hrx : s.lnk.rx = .hunt) (k : Byte) {p : List Byte} (hp : p.length ≤ 96) :
    feedBytes a (frameBytes k p) s = .next (requestArrival
      { a with elapsed := a.elapsed * (frameBytes k p).length } k (frameOwner k p) s) := by
  let low := byteOf (frameCheck k p).toNat
  let high := byteOf ((frameCheck k p).toNat / 256)
  have hlen : (byteOf p.length).toNat = p.length := byteOf_toNat_of_lt (by omega)
  have hcheck : high ++ low = frameCheck k p := half_of_bytes _
  calc feedBytes a (frameBytes k p) s
    _ = feedBytes a (byteOf p.length :: k :: (p ++ [low, high])) (heard a 1 (.length _) s) :=
      feedBytes_first hquiet hrx _
    _ = feedBytes a (k :: (p ++ [low, high])) (heard a 2 (.kind _ p.length) s) :=
      feedBytes_next hquiet hspace rfl (by rw [takeByte_length heard_rx (by omega), hlen]; rfl) _
    _ = feedBytes a (p ++ [low, high]) (heard a 3 (payloadOrCheck _ p.length k []) s) :=
      feedBytes_next hquiet hspace rfl (takeByte_kind heard_rx k) _
    _ = feedBytes a [low, high] (heard a (3 + p.length) (.checkLow _ k p) s) := by
      have hpayload := feedBytes_payload hquiet hspace k p [low, high] 3 []
      rwa [List.length_nil, Nat.zero_add] at hpayload
    _ = feedBytes a [high] (heard a (3 + p.length + 1) (.checkHigh _ k p low) s) :=
      feedBytes_next hquiet hspace rfl (takeByte_checkLow heard_rx low) _
    _ = .next (requestArrival a k (frameOwner k p) (heard a (3 + p.length + 1) .hunt s)) :=
      feedBytes_cons (exec_lastByte heard_rx (by simp only [heard_time]; omega) hcheck)
    _ = _ := by
      rw [requestArrival_heard hrx, frameBytes_length]

end

/-- Settles O49: the frame's bytes complete it at the slot, and its payload reads back as the request. -/
theorem bytesActAsTheRequest : Obligations.BytesActAsTheRequest := by
  unfold Obligations.BytesActAsTheRequest
  intro a r s hfits hrx hquiet hspace
  rw [feedBytes_frame hquiet hspace hrx r.kind (length_payload_le hfits), exec_commandOf,
    frameOwner_request (parseRequest_payload hfits)]

end Sys2Proof.Machine
end

section
/-! PROOFS. The statement on request payloads (section 10.5, R197), from the length of a well-formed
payload and its reading back. -/
namespace Sys2Proof.Machine
open Sys2Proof

/-- Settles O48, request kind by request kind: fixed layouts read back field by field, and the counted
lists of DERATE_SET and TARIFF_LOAD by induction on the list. -/
theorem everyWellFormedPayloadReadsBack : Obligations.EveryWellFormedPayloadReadsBack := by
  unfold Obligations.EveryWellFormedPayloadReadsBack
  intro r hfits
  exact ⟨length_payload_le hfits, parseRequest_payload hfits⟩

end Sys2Proof.Machine
end
